-- ==== Sys2Proof/Word.lean ====
section
/-! DEFINITION. The word types of the core, in the spec's names. -/

namespace Sys2Proof

/-- A row word `w[24:0]`: row position `p` stands at bit `24 - p` (00_scope.md R7, 30_encoding.md R73). -/
abbrev RowWord := BitVec 25

/-- The two bits `{h, l}` at row positions `2i` and `2i+1` (30_encoding.md R71). -/
abbrev Pair := BitVec 2

/-- The identifier, an unsigned integer 0 to 31 (10_state.md R27). -/
abbrev Ident := BitVec 5

/-- The value of the fixed field, seven bits (42_packet_validator.md R152). -/
abbrev FixedValue := BitVec 7

/-- A stored byte of a row the host holds as bytes (20_memory.md R54). -/
abbrev Byte := BitVec 8

end Sys2Proof
end

