-- ==== Sys2Proof/Syntax.lean ====
section
/-! DEFINITION. The operations of the core (one constructor per row of the opcode table), the places
their words stand at, the codes the registers hold, and the host's command lines. -/

namespace Sys2Proof

/-- The four values of the 2-bit SYM code (30_encoding.md R72): the three Line-Code Symbols and NONE,
"no such symbol exists" (00_scope.md R10). -/
inductive Sym where
  | low
  | high
  | floating
  | none
deriving DecidableEq, Repr, Inhabited

/-- The eight values of the 3-bit `state` register (10_state.md R23, 30_encoding.md R75). -/
inductive SeqState where
  | idle
  | select
  | checkSync
  | decode
  | validateFixed
  | validateId
  | reject
  | emit
deriving DecidableEq, Repr, Inhabited

/-- The internal cause labels of a rejection (60_exceptions.md R200); `none` is code 0, "no rejection". -/
inductive Cause where
  | none
  | rowCount
  | noLen
  | noRepeat
  | sync
  | badSym
  | fixDom
  | fixVal
  | idDom
deriving DecidableEq, Repr, Inhabited

/-- The operations of the core, in the order of spec/opcode_table.json. A PAIR operation carries its
lane (symbol index 0 to 11), an IDPAIR operation its symbol index 0 to 4, a FIXPAIR operation the place
`j` of its symbol in the fixed field (symbol index `5 + j`), ROW_ACCEPT the row word, and CMD_RESET the
`start` bit that its pattern `1x` leaves free. -/
inductive Instr where
  | symLow (i : Fin 12)
  | symHigh (i : Fin 12)
  | symFloating (i : Fin 12)
  | symNone (i : Fin 12)
  | idBit1 (i : Fin 5)
  | idBit0 (i : Fin 5)
  | idRejHigh (i : Fin 5)
  | idRejNone (i : Fin 5)
  | fixBit0 (j : Fin 7)
  | fixBit1 (j : Fin 7)
  | fixRejFloating (j : Fin 7)
  | fixRejNone (j : Fin 7)
  | syncOk
  | syncFail
  | rowAccept (w : RowWord)
  | cmdReset (start : Bool)
  | cmdStart
  | cmdNop
  | stIdle
  | stSelect
  | stCheckSync
  | stDecode
  | stValidateFixed
  | stValidateId
  | stReject
  | stEmit
deriving DecidableEq, Repr

/-- Where a word stands, which is what tells the formats apart (30_encoding.md R70): the same two bits
are a PAIR at a lane, an IDPAIR or a FIXPAIR in a field, and a CTRL word on the control port. -/
inductive Site where
  | pair (i : Fin 12)
  | idPair (i : Fin 5)
  | fixPair (j : Fin 7)
  | sync
  | row
  | ctrl
  | state
deriving DecidableEq, Repr

/-- The sites of the standalone sub-blocks (10_state.md R34), where a host that tests a sub-block alone
may present a word. -/
inductive BlockSite where
  | pair (i : Fin 12)
  | idPair (i : Fin 5)
  | fixPair (j : Fin 7)
  | sync
  | row
deriving DecidableEq, Repr

/-- One slot of a `.buf` directive: `k: len, 0xWORD` (30_encoding.md R84). -/
structure SlotEntry where
  slot : Nat
  len  : Nat
  word : RowWord
deriving DecidableEq, Repr

/-- A `.buf n ; k: len, 0xWORD ; …` directive (30_encoding.md R84). -/
structure BufLine where
  count : Nat
  slots : List SlotEntry
deriving DecidableEq, Repr

/-- One line of the host command notation (30_encoding.md R84, R85). `cycle c` drives the CTRL word
`c = {rst, start}` for one clock cycle. `present` and `matchRows` are the model's own lines
(DESIGN CHOICE, log entry 7): they give a word, or the buffer on the ports, to a standalone sub-block
of 10_state.md R34. -/
inductive HostLine where
  | cycle (c : BitVec 2)
  | buf (b : BufLine)
  | waitDone
  | decode
  | reset
  | present (b : BlockSite) (w : Nat)
  | matchRows
deriving DecidableEq, Repr

/-- `RST`, CTRL 0b10 (30_encoding.md R84). -/
abbrev HostLine.rst : HostLine := .cycle 0b10#2

/-- `START`, CTRL 0b01 (30_encoding.md R84). -/
abbrev HostLine.start : HostLine := .cycle 0b01#2

/-- `NOP`, CTRL 0b00 (30_encoding.md R84). -/
abbrev HostLine.nop : HostLine := .cycle 0b00#2

end Sys2Proof
end

