-- ==== Sys2Proof/Config.lean ====
section
/-! DEFINITION. What a built instance fixes (00_scope.md R6), and the free values: constants with no
body, one for each thing the spec leaves open. -/

namespace Sys2Proof

/-- The weight of identifier symbol 0 (00_scope.md R6, 90_conflicts.md C1). -/
inductive IdOrder where
  | msbFirst
  | lsbFirst
deriving DecidableEq, Repr

/-- The implementation parameters of 00_scope.md R6. -/
structure Config where
  nrowsMax : Nat
  lenW     : Nat
  cntW     : Nat
  idOrder  : IdOrder
deriving DecidableEq, Repr

/-- The legal values of the parameters (00_scope.md R6): `NROWS_MAX >= 4`, `LEN_W >= 5`, and
`CNT_W >= ceil(log2(NROWS_MAX+1))`, which says that `CNT_W` bits can hold `NROWS_MAX`. -/
abbrev Config.wf (c : Config) : Prop :=
  4 ≤ c.nrowsMax ∧ 5 ≤ c.lenW ∧ c.nrowsMax < 2 ^ c.cntW

/-- `IDX_W = max(1, ceil(log2(NROWS_MAX)))` (00_scope.md R6); for `N >= 2`, `ceil(log2 N)` is
`log2 (N - 1) + 1`. -/
def Config.idxW (c : Config) : Nat := max 1 (Nat.log2 (c.nrowsMax - 1) + 1)

/-- The instance that `State.reset` is of: the eight slots and the identifier order of
95_test_vectors.md, and widths that hold the values used there. DESIGN CHOICE, log entry 2: the spec
leaves the sizes OPEN, and claims are made of every configuration. -/
def Config.built : Config :=
  { nrowsMax := 8, lenW := 5, cntW := 4, idOrder := .msbFirst }

/-- Free value (log entry 3): `rst` in a cycle for which the host has no line left. -/
opaque Config.freeRst : Nat → Bool

/-- Free value (log entry 3): `start` in a cycle for which the host has no line left. -/
opaque Config.freeStart : Nat → Bool

/-- Free value (log entry 3): `row_count` in such a cycle. -/
opaque Config.freeRowCount : Nat → Nat

/-- Free value (log entry 3): `row_len[k]` in such a cycle. -/
opaque Config.freeRowLen : Nat → Nat → Nat

/-- Free value (log entry 3): `row_word[k]` in such a cycle. -/
opaque Config.freeRowWord : Nat → Nat → RowWord

/-- Free value (log entry 9): the bit that a symbol outside its field's domain gives to IDASM or FIXASM.
42_packet_validator.md R151 and R152 give a bit only to the symbols of the domain. -/
opaque Config.openBit : Vector Sym 12 → Fin 12 → Bool

/-- Free value (log entry 8): `state` before the first reset edge (10_state.md R36). -/
opaque Config.powerUpState : SeqState

/-- Free value (log entry 8): `row_q` before the first reset edge (10_state.md R36). -/
opaque Config.powerUpRow : RowWord

/-- Free value (log entry 8): `sym_q` before the first reset edge (10_state.md R36). -/
opaque Config.powerUpSym : Fin 12 → Sym

/-- Free value (log entry 8): `res_status` before the first reset edge (10_state.md R36). -/
opaque Config.powerUpStatus : Bool

/-- Free value (log entry 8): `res_id` before the first reset edge (10_state.md R36). -/
opaque Config.powerUpId : Ident

end Sys2Proof
end

