-- ==== Sys2Proof/WellFormed.lean ====
section
/-! DEFINITION. Which operations and which host lines are well formed. An operand that a constructor
bounds by its type (a lane, a symbol index) needs no check; a row word and a host line do. -/

namespace Sys2Proof

/-- The mask of the accepted-row pattern `1a1b1c1d1e110000111111111` (30_encoding.md R80). -/
abbrev rowMask : RowWord := 0x1557FFF#25

/-- The match of the accepted-row pattern (30_encoding.md R80). -/
abbrev rowMatch : RowWord := 0x15561FF#25

/-- ROW_ACCEPT's word matches the pattern of 30_encoding.md R80; every other operation is well formed
by its type. -/
def Instr.wellFormed : Instr → Bool
  | .rowAccept w => w &&& rowMask == rowMatch
  | .symLow _ | .symHigh _ | .symFloating _ | .symNone _ => true
  | .idBit1 _ | .idBit0 _ | .idRejHigh _ | .idRejNone _ => true
  | .fixBit0 _ | .fixBit1 _ | .fixRejFloating _ | .fixRejNone _ => true
  | .syncOk | .syncFail | .cmdReset _ | .cmdStart | .cmdNop => true
  | .stIdle | .stSelect | .stCheckSync | .stDecode => true
  | .stValidateFixed | .stValidateId | .stReject | .stEmit => true

/-- The width in bits of a word at a site (30_encoding.md R70). -/
def Site.width : Site → Nat
  | .pair _ | .idPair _ | .fixPair _ | .ctrl => 2
  | .sync => 1
  | .row => 25
  | .state => 3

/-- The site a standalone sub-block's port is. -/
def BlockSite.site : BlockSite → Site
  | .pair i => .pair i
  | .idPair i => .idPair i
  | .fixPair j => .fixPair j
  | .sync => .sync
  | .row => .row

/-- The listed slots exist: `k < NROWS_MAX` (20_memory.md R50). -/
def BufLine.slotsExist (c : Config) (b : BufLine) : Bool :=
  b.slots.all fun e => decide (e.slot < c.nrowsMax)

/-- The row count fits its port of `CNT_W` bits (10_state.md R30). -/
def BufLine.countFits (c : Config) (b : BufLine) : Bool :=
  decide (b.count < 2 ^ c.cntW)

/-- Each row length fits its port of `LEN_W` bits (10_state.md R30); a longer row must be presented
with a length that fits (70_reset_and_hazards.md R238). -/
def BufLine.lensFit (c : Config) (b : BufLine) : Bool :=
  b.slots.all fun e => decide (e.len < 2 ^ c.lenW)

/-- No slot is listed twice, so that the directive gives each slot one row. -/
def BufLine.slotsDistinct (b : BufLine) : Bool :=
  decide (b.slots.map (·.slot)).Nodup

/-- What the ports of an instance can carry. -/
def BufLine.wellFormed (c : Config) (b : BufLine) : Bool :=
  b.slotsExist c && b.countFits c && b.lensFit c && b.slotsDistinct

/-- A host line that the ports of an instance can carry. -/
def HostLine.wellFormed (c : Config) : HostLine → Bool
  | .buf b => b.wellFormed c
  | .present b w => decide (w < 2 ^ b.site.width)
  | .cycle _ | .waitDone | .decode | .reset | .matchRows => true

end Sys2Proof
end

