-- ==== Sys2Proof/Decode.lean ====
section
/-! DEFINITION. The decoder, total on every number at every site and refusing by name, and the encoder,
both written from the formats of 30_encoding.md R71 to R80. The patterns overlap between formats, so a
word is decoded at the site it stands at (R70). -/

namespace Sys2Proof

/-- Why a word is no operation of its format. -/
inductive DecodeError where
  /-- The number has more bits than the format (30_encoding.md R70: every format has a fixed width). -/
  | tooWide
  /-- A row word outside the pattern of R80: "every other row word is rejected" (30_encoding.md R81). -/
  | rowRejected
deriving DecidableEq, Repr

/-- PAIR (30_encoding.md R71, R81). -/
def decodePair (i : Fin 12) : Nat → Except DecodeError Instr
  | 3 => .ok (.symLow i)
  | 0 => .ok (.symHigh i)
  | 2 => .ok (.symFloating i)
  | 1 => .ok (.symNone i)
  | _ => .error .tooWide

/-- IDPAIR (30_encoding.md R77). -/
def decodeIdPair (i : Fin 5) : Nat → Except DecodeError Instr
  | 3 => .ok (.idBit1 i)
  | 2 => .ok (.idBit0 i)
  | 0 => .ok (.idRejHigh i)
  | 1 => .ok (.idRejNone i)
  | _ => .error .tooWide

/-- FIXPAIR (30_encoding.md R78). -/
def decodeFixPair (j : Fin 7) : Nat → Except DecodeError Instr
  | 3 => .ok (.fixBit0 j)
  | 0 => .ok (.fixBit1 j)
  | 2 => .ok (.fixRejFloating j)
  | 1 => .ok (.fixRejNone j)
  | _ => .error .tooWide

/-- SYNC (42_packet_validator.md R141). -/
def decodeSync : Nat → Except DecodeError Instr
  | 1 => .ok .syncOk
  | 0 => .ok .syncFail
  | _ => .error .tooWide

/-- ROW (30_encoding.md R80, 42_packet_validator.md R153). -/
def decodeRow (w : Nat) : Except DecodeError Instr :=
  if w < 2 ^ 25 then
    if BitVec.ofNat 25 w &&& rowMask = rowMatch then .ok (.rowAccept (BitVec.ofNat 25 w))
    else .error .rowRejected
  else .error .tooWide

/-- CTRL `{rst, start}` (30_encoding.md R74). -/
def decodeCtrl : Nat → Except DecodeError Instr
  | 0 => .ok .cmdNop
  | 1 => .ok .cmdStart
  | 2 => .ok (.cmdReset false)
  | 3 => .ok (.cmdReset true)
  | _ => .error .tooWide

/-- STATE (30_encoding.md R75). -/
def decodeState : Nat → Except DecodeError Instr
  | 0 => .ok .stIdle
  | 1 => .ok .stSelect
  | 2 => .ok .stCheckSync
  | 3 => .ok .stDecode
  | 4 => .ok .stValidateFixed
  | 5 => .ok .stValidateId
  | 6 => .ok .stReject
  | 7 => .ok .stEmit
  | _ => .error .tooWide

/-- The operation that the word `w` selects at a site (30_encoding.md R81). -/
def decode : Site → Nat → Except DecodeError Instr
  | .pair i, w => decodePair i w
  | .idPair i, w => decodeIdPair i w
  | .fixPair j, w => decodeFixPair j w
  | .sync, w => decodeSync w
  | .row, w => decodeRow w
  | .ctrl, w => decodeCtrl w
  | .state, w => decodeState w

/-- The site and the word of an operation, from the same tables. -/
def encode : Instr → Site × Nat
  | .symLow i => (.pair i, 3)
  | .symHigh i => (.pair i, 0)
  | .symFloating i => (.pair i, 2)
  | .symNone i => (.pair i, 1)
  | .idBit1 i => (.idPair i, 3)
  | .idBit0 i => (.idPair i, 2)
  | .idRejHigh i => (.idPair i, 0)
  | .idRejNone i => (.idPair i, 1)
  | .fixBit0 j => (.fixPair j, 3)
  | .fixBit1 j => (.fixPair j, 0)
  | .fixRejFloating j => (.fixPair j, 2)
  | .fixRejNone j => (.fixPair j, 1)
  | .syncOk => (.sync, 1)
  | .syncFail => (.sync, 0)
  | .rowAccept w => (.row, w.toNat)
  | .cmdReset start => (.ctrl, 2 + start.toNat)
  | .cmdStart => (.ctrl, 1)
  | .cmdNop => (.ctrl, 0)
  | .stIdle => (.state, 0)
  | .stSelect => (.state, 1)
  | .stCheckSync => (.state, 2)
  | .stDecode => (.state, 3)
  | .stValidateFixed => (.state, 4)
  | .stValidateId => (.state, 5)
  | .stReject => (.state, 6)
  | .stEmit => (.state, 7)

/-- The 2-bit SYM code (30_encoding.md R72). -/
def Sym.code : Sym → BitVec 2
  | .low => 0b00#2
  | .high => 0b01#2
  | .floating => 0b10#2
  | .none => 0b11#2

/-- The 3-bit STATE code (30_encoding.md R75). -/
def SeqState.code : SeqState → BitVec 3
  | .idle => 0b000#3
  | .select => 0b001#3
  | .checkSync => 0b010#3
  | .decode => 0b011#3
  | .validateFixed => 0b100#3
  | .validateId => 0b101#3
  | .reject => 0b110#3
  | .emit => 0b111#3

/-- The state whose code is `w`, where one is (30_encoding.md R75). -/
def seqStateOfCode : Nat → Option SeqState
  | 0 => some .idle
  | 1 => some .select
  | 2 => some .checkSync
  | 3 => some .decode
  | 4 => some .validateFixed
  | 5 => some .validateId
  | 6 => some .reject
  | 7 => some .emit
  | _ => none

/-- The operation that the `state` register selects: its STATE word, decoded (30_encoding.md R75). -/
def stateInstr : SeqState → Instr
  | .idle => .stIdle
  | .select => .stSelect
  | .checkSync => .stCheckSync
  | .decode => .stDecode
  | .validateFixed => .stValidateFixed
  | .validateId => .stValidateId
  | .reject => .stReject
  | .emit => .stEmit

/-- The code of a cause label (60_exceptions.md R200). -/
def Cause.code : Cause → Nat
  | .none => 0
  | .rowCount => 1
  | .noLen => 2
  | .noRepeat => 3
  | .sync => 4
  | .badSym => 5
  | .fixDom => 6
  | .fixVal => 7
  | .idDom => 8

/-- The site at which the host's question about a table row is answered (log entry 10): the pattern
alone does not name its format, and the table's rows of 8 bits are read as the word of the `state`
register, which "selects the cycle's step" (30_encoding.md R70); those of 32 bits as a row word. A
width given in the format's own bits names the format as far as it can. -/
def tableSite : Nat → Option Site
  | 1 => some .sync
  | 2 => some (.pair 0)
  | 3 => some .state
  | 8 => some .state
  | 25 => some .row
  | 32 => some .row
  | _ => none

/-- The instruction the decoder reads from a table row's word. -/
def decodeTableWord (nbits w : Nat) : Option Instr :=
  match tableSite nbits with
  | some site => (decode site w).toOption
  | none => none

end Sys2Proof
end

