-- ==== Sys2Proof/Machine/State.lean ====
section
/-! DEFINITION. The state of the machine as plain data: the configuration, the registers, the input
ports, the signals that are no registers, and the host's lines (10_state.md R20 keeps the kinds apart). -/

namespace Sys2Proof.Machine

/-- What a row slot's ports carry: `row_len[k]` and `row_word[k]` (20_memory.md R50). -/
structure Row where
  len  : Nat
  word : RowWord
deriving DecidableEq, Repr, Inhabited

/-- What an unlisted slot reads as: length 0 and word 0 (30_encoding.md R84). -/
abbrev Row.blank : Row := { len := 0, word := 0#25 }

/-- The rows on the buffer ports, the core's one address space (20_memory.md R50): (slot, row) pairs in
one canonical form, slots strictly rising and no entry equal to what an unlisted slot reads as. -/
abbrev Memory := List (Nat × Row)

/-- The canonical form. -/
abbrev Memory.wf (m : Memory) : Prop :=
  (m.map Prod.fst).Pairwise (· < ·) ∧ ∀ c ∈ m, c.2 ≠ Row.blank

/-- The Bit-Row Buffer on the ports: `row_count` and the rows (10_state.md R30). -/
structure Buffer where
  rowCount : Nat
  rows     : Memory
deriving DecidableEq, Repr

/-- The input ports in the current cycle (10_state.md R29, R30, R32). -/
structure Ports where
  rst   : Bool
  start : Bool
  buf   : Buffer
deriving DecidableEq, Repr

/-- The registers, all that the core holds across a clock edge (10_state.md R20, R23 to R27). -/
structure Regs where
  state     : SeqState
  rowQ      : RowWord
  symQ      : Vector Sym 12
  resStatus : Bool
  resId     : Ident
deriving DecidableEq, Repr

/-- The outputs of one line_code_symbol_decoder lane: `sym` and `sym_ok` (41_symbol_decoder.md R120). -/
structure Lane where
  sym : Sym
  ok  : Bool
deriving DecidableEq, Repr, Inhabited

/-- The signals that the operations of the table produce and that are no registers: each keeps the value
it last had, and no register, port or output depends on any of them (DESIGN CHOICE, log entry 5). -/
structure Nets where
  /-- `s[i]` and `v[i]` (41_symbol_decoder.md R126). -/
  lanes   : Vector Lane 12
  /-- `sync_ok` (42_packet_validator.md R141). -/
  syncOk  : Bool
  /-- `b[0]` to `b[4]` (42_packet_validator.md R151). -/
  idBits  : Vector Bool 5
  /-- `f[5]` to `f[11]`, at places 0 to 6 (42_packet_validator.md R152). -/
  fixBits : Vector Bool 7
  /-- `ok` of the packet_validator (42_packet_validator.md R140). -/
  pvOk    : Bool
  /-- `pv_id` of the packet_validator (42_packet_validator.md R140). -/
  pvId    : Ident
  /-- `found` of the repetition_matcher (40_repetition_matcher.md R100). -/
  found   : Bool
  /-- `index` of the repetition_matcher (40_repetition_matcher.md R100). -/
  index   : Nat
  /-- The label of the last rejection, recorded in no register (60_exceptions.md R200, R211). -/
  cause   : Cause
deriving DecidableEq, Repr

/-- The machine: one built instance of the core with its ports and its host. -/
structure State where
  /-- The parameters of the instance; no step changes them. -/
  cfg   : Config
  regs  : Regs
  ports : Ports
  nets  : Nets
  /-- The host's command lines still to come, the next one first (30_encoding.md R84). -/
  host  : List HostLine
  /-- How many clock cycles the host has driven (30_encoding.md R84, "Cycle numbering"). -/
  cycle : Nat
deriving DecidableEq, Repr

/-- Why the machine stops on a `.buf` line that no port can carry. Every one is raised by `fetch`
(Machine/Fetch.lean) and is safe: the machine stops where no instance could be given the line. No
operation of the table faults, since the spec's one exception, the rejection, is a next state. -/
inductive Fault where
  /-- A listed slot `k >= NROWS_MAX`, which does not exist (20_memory.md R50). Safe. -/
  | noSuchSlot
  /-- A row count that does not fit `CNT_W` bits (10_state.md R30). Safe. -/
  | countTooWide
  /-- A row length that does not fit `LEN_W` bits (10_state.md R30, 70_reset_and_hazards.md R238). Safe. -/
  | lengthTooWide
  /-- One slot listed twice, for which the directive says two rows. Safe. -/
  | slotListedTwice
deriving DecidableEq, Repr

/-- Why the machine has no meaning for what it is given. -/
inductive Refusal where
  /-- An operation without a meaning yet, raised by an arm of `exec`; no arm does. Safe. -/
  | notModelled (mnemonic : String)
  /-- A word presented to a sub-block that is wider than its format, raised by `fetch`
  (Machine/Fetch.lean). Safe. -/
  | noOperation
deriving DecidableEq, Repr

/-- The reset values of 10_state.md R35. -/
def Regs.reset : Regs :=
  { state := .idle, rowQ := 0#25, symQ := Vector.replicate 12 .low, resStatus := false, resId := 0#5 }

/-- The ports before the host has driven anything (DESIGN CHOICE, log entry 4). -/
def Ports.undriven : Ports :=
  { rst := false, start := false, buf := { rowCount := 0, rows := [] } }

/-- The signals before any operation has produced one (DESIGN CHOICE, log entries 5 and 6). -/
def Nets.silent : Nets :=
  { lanes := Vector.replicate 12 { sym := .none, ok := false }
    syncOk := false
    idBits := Vector.replicate 5 false
    fixBits := Vector.replicate 7 false
    pvOk := false
    pvId := 0#5
    found := false
    index := 0
    cause := .none }

/-- An instance of configuration `c` right after reset (10_state.md R35), with no host lines. -/
def State.resetOf (c : Config) : State :=
  { cfg := c, regs := Regs.reset, ports := Ports.undriven, nets := Nets.silent, host := [], cycle := 0 }

/-- The machine right after reset. -/
def State.reset : State := State.resetOf Config.built

/-- The registers before the first reset edge: unspecified (10_state.md R36), so each a free value. -/
def Regs.powerUp : Regs :=
  { state := Config.powerUpState
    rowQ := Config.powerUpRow
    symQ := Vector.ofFn Config.powerUpSym
    resStatus := Config.powerUpStatus
    resId := Config.powerUpId }

/-- An instance of configuration `c` after power-up and before its first reset edge, with the lines its
host is about to drive (10_state.md R36, 70_reset_and_hazards.md R233). -/
def State.powerUp (c : Config) (lines : List HostLine) : State :=
  { State.resetOf c with regs := Regs.powerUp, host := lines }

end Sys2Proof.Machine
end

