-- ==== Sys2Proof/Machine/Ops.lean ====
section
/-! DEFINITION. The named operations over the buffer, the registers, the ports and the signals; the
entry into a rejection and the return from one. -/

namespace Sys2Proof.Machine

/-! ### The buffer -/

/-- The row of slot `k`. -/
def Memory.read : Memory → Nat → Row
  | [], _ => Row.blank
  | (a, r) :: m, k => if a = k then r else Memory.read m k

/-- Driving slot `k` with row `r`; the canonical form is kept. -/
def Memory.write : Memory → Nat → Row → Memory
  | [], k, r => if r = Row.blank then [] else [(k, r)]
  | (a, x) :: m, k, r =>
    if k < a then (if r = Row.blank then (a, x) :: m else (k, r) :: (a, x) :: m)
    else if k = a then (if r = Row.blank then m else (k, r) :: m)
    else (a, x) :: Memory.write m k r

/-- The rows that a `.buf` directive's entries give, every unlisted slot blank (30_encoding.md R84). -/
def Memory.ofEntries : List SlotEntry → Memory
  | [] => []
  | e :: es => Memory.write (Memory.ofEntries es) e.slot { len := e.len, word := e.word }

/-- The buffer that a `.buf` directive puts on the ports (30_encoding.md R84). -/
def bufferOfLine (b : BufLine) : Buffer :=
  { rowCount := b.count, rows := Memory.ofEntries b.slots }

/-- `RowCount()` (20_memory.md R51). -/
def Buffer.count (b : Buffer) : Nat := b.rowCount

/-- `RowLen(k)` (20_memory.md R51). -/
def Buffer.len (b : Buffer) (k : Nat) : Nat := (b.rows.read k).len

/-- `RowWord(k)` (20_memory.md R51). -/
def Buffer.word (b : Buffer) (k : Nat) : RowWord := (b.rows.read k).word

/-- Row position `p` of a row word, at bit `24 - p` (00_scope.md R7); `false` beyond position 24, which
no port carries (20_memory.md R55). -/
def rowPos (w : RowWord) (p : Nat) : Bool := decide (p < 25) && w.getLsbD (24 - p)

/-- `RowBit(k,p)` (20_memory.md R51). -/
def Buffer.bit (b : Buffer) (k p : Nat) : Bool := rowPos (b.word k) p

/-- A row stored in bytes `B0 B1 B2 B3`, as it is presented: `({B0, B1, B2, B3} >> 7)[24:0]`
(20_memory.md R54). -/
def rowOfBytes (b0 b1 b2 b3 : Byte) : RowWord :=
  ((b0 ++ b1 ++ b2 ++ b3 : BitVec 32) >>> 7).setWidth 25

/-! ### Registers -/

/-- `state <- st` (00_scope.md R9). -/
def State.goto (st : SeqState) (s : State) : State :=
  { s with regs := { s.regs with state := st } }

/-- `row_q <- w` (10_state.md R24). -/
def State.setRow (w : RowWord) (s : State) : State :=
  { s with regs := { s.regs with rowQ := w } }

/-- `sym_q[i] <- v[i]` for all twelve entries at once (10_state.md R25). -/
def State.setSyms (v : Vector Sym 12) (s : State) : State :=
  { s with regs := { s.regs with symQ := v } }

/-- `res_status <- ok; res_id <- id` (10_state.md R26, R27). -/
def State.setResult (ok : Bool) (id : Ident) (s : State) : State :=
  { s with regs := { s.regs with resStatus := ok, resId := id } }

/-! ### Signals that are no registers -/

/-- The outputs of lane `i`. -/
def State.setLane (i : Fin 12) (l : Lane) (s : State) : State :=
  { s with nets := { s.nets with lanes := s.nets.lanes.set i l } }

/-- The outputs of all twelve lanes. -/
def State.setLanes (v : Vector Lane 12) (s : State) : State :=
  { s with nets := { s.nets with lanes := v } }

/-- `sync_ok`. -/
def State.setSync (ok : Bool) (s : State) : State :=
  { s with nets := { s.nets with syncOk := ok } }

/-- Identifier bit `b[i]`. -/
def State.setIdBit (i : Fin 5) (b : Bool) (s : State) : State :=
  { s with nets := { s.nets with idBits := s.nets.idBits.set i b } }

/-- All five identifier bits. -/
def State.setIdBits (v : Vector Bool 5) (s : State) : State :=
  { s with nets := { s.nets with idBits := v } }

/-- Fixed-field bit `f[5+j]`. -/
def State.setFixBit (j : Fin 7) (b : Bool) (s : State) : State :=
  { s with nets := { s.nets with fixBits := s.nets.fixBits.set j b } }

/-- All seven fixed-field bits. -/
def State.setFixBits (v : Vector Bool 7) (s : State) : State :=
  { s with nets := { s.nets with fixBits := v } }

/-- The packet_validator's outputs `(ok, pv_id)`. -/
def State.setPv (r : Bool × Ident) (s : State) : State :=
  { s with nets := { s.nets with pvOk := r.1, pvId := r.2 } }

/-- The repetition_matcher's outputs `(found, index)`. -/
def State.setMatch (r : Bool × Nat) (s : State) : State :=
  { s with nets := { s.nets with found := r.1, index := r.2 } }

/-- The internal cause label (60_exceptions.md R200). -/
def State.setCause (c : Cause) (s : State) : State :=
  { s with nets := { s.nets with cause := c } }

/-! ### Ports and host -/

/-- The CTRL word `{rst, start}` on the control ports (30_encoding.md R74). -/
def State.setCtrl (rst start : Bool) (s : State) : State :=
  { s with ports := { s.ports with rst := rst, start := start } }

/-- The buffer ports. -/
def State.setBuffer (b : Buffer) (s : State) : State :=
  { s with ports := { s.ports with buf := b } }

/-- The host's remaining lines. -/
def State.setHost (h : List HostLine) (s : State) : State :=
  { s with host := h }

/-- One more cycle is driven. -/
def State.nextCycle (s : State) : State :=
  { s with cycle := s.cycle + 1 }

/-! ### Reset and rejection -/

/-- Every register takes its reset value (10_state.md R35, 43_core_sequencer.md R173); no rejection is
labelled any more (log entry 6). -/
def State.resetRegs (s : State) : State :=
  { s with regs := Regs.reset, nets := { s.nets with cause := .none } }

/-- Rejection entry `reject(c)` (60_exceptions.md R211): `state <- REJECT`, `res_status <- 0`,
`res_id <- 0`; `row_q` and `sym_q` keep their values, and the label is recorded in no register. -/
def State.reject (c : Cause) (s : State) : State :=
  ((s.goto .reject).setResult false 0#5).setCause c

/-- The return from a rejection, by itself, at the next edge: nothing is restored (60_exceptions.md R212,
43_core_sequencer.md R182). -/
def State.leaveReject (s : State) : State := s.goto .idle

/-- The state in which a cause is detected (60_exceptions.md R200). -/
def causeState : Cause → Option SeqState
  | .none => none
  | .rowCount => some .select
  | .noLen => some .select
  | .noRepeat => some .select
  | .sync => some .checkSync
  | .badSym => some .decode
  | .fixDom => some .validateFixed
  | .fixVal => some .validateFixed
  | .idDom => some .validateId

/-- The rejecting edge of a cause, counted from E0 (60_exceptions.md R200, 70_reset_and_hazards.md
R241); code 0 is a match, which enters EMIT at E5. -/
def causeEdge : Cause → Nat
  | .none => 5
  | .rowCount => 1
  | .noLen => 1
  | .noRepeat => 1
  | .sync => 2
  | .badSym => 3
  | .fixDom => 4
  | .fixVal => 4
  | .idDom => 5

/-- "The row is rejected" with cause `c`, as a pair or the sync bit says it (42_packet_validator.md R141,
R144, R145, R148, R149): the validator gives `ok` = 0 and `pv_id` = 0 (R154), and a core that is in the
state in which `c` is detected (60_exceptions.md R200) takes the rejection (R211). -/
def State.rejectRow (c : Cause) (s : State) : State :=
  let t := (s.setPv (false, 0#5)).setCause c
  if causeState c = some t.regs.state then t.reject c else t

end Sys2Proof.Machine
end

