-- ==== Sys2Proof/Machine/Operands.lean ====
section
/-! DEFINITION. The combinational functions of the core: pair extraction, LCSD, the field bits and their
assembly, the packet_validator and the repetition_matcher, and the result function of a decode. -/

namespace Sys2Proof.Machine

/-! ### Constants of 00_scope.md R5 -/

/-- `K_MIN_ROWS`. -/
abbrev kMinRows : Nat := 4
/-- `K_MIN_REPEATS`. -/
abbrev kMinRepeats : Nat := 4
/-- `K_ROW_BITS`. -/
abbrev kRowBits : Nat := 25
/-- `K_FIXED_VALUE`. -/
abbrev kFixedValue : FixedValue := 0b0110000#7
/-- `K_SYNC_POS`. -/
abbrev kSyncPos : Nat := 24

/-! ### line_code_symbol_decoder -/

/-- `pair_i(w) = {w[24-2i], w[23-2i]}` (00_scope.md R9, 30_encoding.md R73). -/
def pairAt (w : RowWord) (i : Fin 12) : Pair := w.extractLsb' (23 - 2 * i.val) 2

/-- `LCSD` (41_symbol_decoder.md R120). -/
def lcsd (p : Pair) : Lane :=
  if p = 0b11#2 then { sym := .low, ok := true }
  else if p = 0b00#2 then { sym := .high, ok := true }
  else if p = 0b10#2 then { sym := .floating, ok := true }
  else { sym := .none, ok := false }

/-- The twelve lanes of a row word, `SYMDEC_ROW` (41_symbol_decoder.md R126). -/
def rowLanes (w : RowWord) : Vector Lane 12 := Vector.ofFn fun i => lcsd (pairAt w i)

/-- `all_ok` of twelve lanes (41_symbol_decoder.md R126). -/
def allOk (v : Vector Lane 12) : Bool := (List.finRange 12).all fun i => v[i].ok

/-- The symbols of twelve lanes. -/
def laneSyms (v : Vector Lane 12) : Vector Sym 12 := Vector.ofFn fun i => v[i].sym

/-! ### Fields -/

/-- The symbol index of identifier symbol `i` (42_packet_validator.md, symbols 0 to 4). -/
def idIndex (i : Fin 5) : Fin 12 := ⟨i.val, by omega⟩

/-- The symbol index `5 + j` of the fixed field's symbol at place `j` (symbols 5 to 11). -/
def fixIndex (j : Fin 7) : Fin 12 := ⟨5 + j.val, by omega⟩

/-- The identifier bit of symbol `i` (42_packet_validator.md R142, R143, R151): LOW gives 1, FLOATING 0.
R151 gives a bit to no other symbol; there the bit is a free value (log entry 9). -/
def idBit (v : Vector Sym 12) (i : Fin 12) : Bool :=
  match v[i] with
  | .low => true
  | .floating => false
  | .high => Config.openBit v i
  | .none => Config.openBit v i

/-- The fixed-field bit of symbol `i` (42_packet_validator.md R146, R147, R152): HIGH gives 1, LOW 0.
R152 gives a bit to no other symbol; there the bit is a free value (log entry 9). -/
def fixBit (v : Vector Sym 12) (i : Fin 12) : Bool :=
  match v[i] with
  | .low => false
  | .high => true
  | .floating => Config.openBit v i
  | .none => Config.openBit v i

/-- `b[0]` to `b[4]`. -/
def idBits (v : Vector Sym 12) : Vector Bool 5 := Vector.ofFn fun i => idBit v (idIndex i)

/-- `f[5]` to `f[11]`. -/
def fixBits (v : Vector Sym 12) : Vector Bool 7 := Vector.ofFn fun j => fixBit v (fixIndex j)

/-- The weighted sum of `IDASM` (42_packet_validator.md R151), for either `ID_ORDER`. -/
def idAsm (o : IdOrder) (b : Vector Bool 5) : Ident :=
  match o with
  | .msbFirst =>
    BitVec.ofNat 5 (b[0].toNat * 16 + b[1].toNat * 8 + b[2].toNat * 4 + b[3].toNat * 2 + b[4].toNat)
  | .lsbFirst =>
    BitVec.ofNat 5 (b[0].toNat + b[1].toNat * 2 + b[2].toNat * 4 + b[3].toNat * 8 + b[4].toNat * 16)

/-- The weighted sum of `FIXASM`, symbol 5 most significant (42_packet_validator.md R152). -/
def fixAsm (f : Vector Bool 7) : FixedValue :=
  BitVec.ofNat 7 (f[0].toNat * 64 + f[1].toNat * 32 + f[2].toNat * 16 + f[3].toNat * 8
    + f[4].toNat * 4 + f[5].toNat * 2 + f[6].toNat)

/-- Some fixed-field symbol is FLOATING (43_core_sequencer.md R180). -/
def anyFixFloating (v : Vector Sym 12) : Bool :=
  (List.finRange 7).any fun j => v[fixIndex j] == .floating

/-- Some identifier symbol is HIGH (43_core_sequencer.md R181). -/
def anyIdHigh (v : Vector Sym 12) : Bool :=
  (List.finRange 5).any fun i => v[idIndex i] == .high

/-! ### packet_validator -/

/-- `sync_ok`: the bit at row position 24 is 1 (42_packet_validator.md R141). -/
def syncOk (w : RowWord) : Bool := rowPos w kSyncPos

/-- `fix_dom`: symbols 5 to 11 are LOW or HIGH (42_packet_validator.md R150). -/
def fixDom (v : Vector Sym 12) : Bool :=
  (List.finRange 7).all fun j => v[fixIndex j] == .low || v[fixIndex j] == .high

/-- `fix_ok` (42_packet_validator.md R150, R152). -/
def fixOk (v : Vector Sym 12) : Bool := fixDom v && (fixAsm (fixBits v) == kFixedValue)

/-- `id_dom`: symbols 0 to 4 are LOW or FLOATING (42_packet_validator.md R150). -/
def idDom (v : Vector Sym 12) : Bool :=
  (List.finRange 5).all fun i => v[idIndex i] == .low || v[idIndex i] == .floating

/-- `ok` of the packet_validator (42_packet_validator.md R150). -/
def pvOk (w : RowWord) : Bool :=
  syncOk w && allOk (rowLanes w) && fixOk (laneSyms (rowLanes w)) && idDom (laneSyms (rowLanes w))

/-- `PV`, the packet_validator function (42_packet_validator.md R150, R154). -/
def pv (o : IdOrder) (w : RowWord) : Bool × Ident :=
  if pvOk w then (true, idAsm o (idBits (laneSyms (rowLanes w)))) else (false, 0#5)

/-- The cause that the checks of a row word find first (60_exceptions.md R210); `none` when the word
passes every check. -/
def rowCause (w : RowWord) : Cause :=
  if syncOk w = false then .sync
  else if allOk (rowLanes w) = false then .badSym
  else if anyFixFloating (laneSyms (rowLanes w)) then .fixDom
  else if fixAsm (fixBits (laneSyms (rowLanes w))) ≠ kFixedValue then .fixVal
  else if anyIdHigh (laneSyms (rowLanes w)) then .idDom
  else .none

/-- The word matches the accepted-row pattern (30_encoding.md R80). -/
def rowMatches (w : RowWord) : Bool := w &&& rowMask == rowMatch

/-- The identifier bits `{w[23], w[21], w[19], w[17], w[15]}` of an accepted row, symbol 0 first
(30_encoding.md R79). -/
def closedIdBits (w : RowWord) : Vector Bool 5 :=
  #v[w.getLsbD 23, w.getLsbD 21, w.getLsbD 19, w.getLsbD 17, w.getLsbD 15]

/-- `ROW_ACCEPT`, the closed form of `PV` (42_packet_validator.md R153). -/
def rowAcceptResult (o : IdOrder) (w : RowWord) : Bool × Ident :=
  if rowMatches w then (true, idAsm o (closedIdBits w)) else (false, 0#5)

/-! ### repetition_matcher -/

/-- The effective row count `n = min(RowCount(), NROWS_MAX)` (20_memory.md R52). -/
def effCount (c : Config) (b : Buffer) : Nat := min b.count c.nrowsMax

/-- `cand[k]`: slot `k` is present and its row is exactly 25 bits long (40_repetition_matcher.md R102). -/
def cand (c : Config) (b : Buffer) (k : Nat) : Bool :=
  decide (k < effCount c b) && b.len k == kRowBits

/-- `eq[j][k]` (40_repetition_matcher.md R103). -/
def rowEq (c : Config) (b : Buffer) (j k : Nat) : Bool :=
  cand c b j && cand c b k && b.word j == b.word k

/-- `cnt[k]`, row `k` itself counted (40_repetition_matcher.md R104). -/
def occurrences (c : Config) (b : Buffer) (k : Nat) : Nat :=
  (List.range c.nrowsMax).countP fun j => rowEq c b j k

/-- `hit[k]` (40_repetition_matcher.md R105). -/
def hit (c : Config) (b : Buffer) (k : Nat) : Bool :=
  decide (kMinRows ≤ effCount c b) && cand c b k && decide (kMinRepeats ≤ occurrences c b k)

/-- `RM`: the lowest qualifying slot, and index 0 when there is none (40_repetition_matcher.md R106). -/
def matcher (c : Config) (b : Buffer) : Bool × Nat :=
  match (List.range c.nrowsMax).find? fun k => hit c b k with
  | some k => (true, k)
  | none => (false, 0)

/-- `select_cause` (60_exceptions.md R210). -/
def selectCause (c : Config) (b : Buffer) : Cause :=
  if effCount c b < kMinRows then .rowCount
  else if (List.range c.nrowsMax).any (fun k => cand c b k) = false then .noLen
  else .noRepeat

/-! ### What a decode computes -/

/-- `Decode(B)` (43_core_sequencer.md R184). -/
def decodeBuffer (c : Config) (b : Buffer) : Bool × Ident :=
  if (matcher c b).1 then pv c.idOrder (b.word (matcher c b).2) else (false, 0#5)

/-- The cause that a decode of `B` records (60_exceptions.md R210); `none` on a match. -/
def decodeCause (c : Config) (b : Buffer) : Cause :=
  if (matcher c b).1 then rowCause (b.word (matcher c b).2) else selectCause c b

end Sys2Proof.Machine
end

