-- ==== Sys2Proof/Machine/Flags.lean ====
section
/-! DEFINITION. The outputs and flags of the core: functions of the registers alone (10_state.md R28,
R31). -/

namespace Sys2Proof.Machine

/-- `busy = (state != IDLE)` (10_state.md R28). -/
def Regs.busy (r : Regs) : Bool := r.state != .idle

/-- `done = (state == REJECT) or (state == EMIT)` (10_state.md R28). -/
def Regs.done (r : Regs) : Bool := r.state == .reject || r.state == .emit

/-- `status = res_status` (10_state.md R28). -/
def Regs.status (r : Regs) : Bool := r.resStatus

/-- `id = res_id` (10_state.md R28). -/
def Regs.id (r : Regs) : Ident := r.resId

/-- The RESULT word `{status, id[4:0]}` (30_encoding.md R76). -/
def Regs.result (r : Regs) : BitVec 6 := BitVec.ofBool r.status ++ r.id

end Sys2Proof.Machine
end

