-- ==== Sys2Proof/Machine/PacketValidator.lean ====
section
/-! DEFINITION. The IDPAIR, FIXPAIR, SYNC and ROW families: the packet_validator's operations
(42_packet_validator.md R141 to R149, R153). The block holds no state: its signals change, and an
operation that rejects the row does what `State.rejectRow` says. -/

namespace Sys2Proof.Machine

/-- `ID_BIT1` (42_packet_validator.md R142): `b[i]` = 1. -/
def execIdBit1 (i : Fin 5) (s : State) : Host.Outcome State Fault Refusal :=
  .next (s.setIdBit i true)

/-- `ID_BIT0` (42_packet_validator.md R143): `b[i]` = 0. -/
def execIdBit0 (i : Fin 5) (s : State) : Host.Outcome State Fault Refusal :=
  .next (s.setIdBit i false)

/-- `ID_REJ_HIGH` (42_packet_validator.md R144): the row is rejected with RJ_IDDOM, "no identifier bit",
whichever of the five symbols it is. -/
def execIdRejHigh (_i : Fin 5) (s : State) : Host.Outcome State Fault Refusal :=
  .next (s.rejectRow .idDom)

/-- `ID_REJ_NONE` (42_packet_validator.md R145): the row is rejected with RJ_BADSYM, whichever of the
five symbols it is. -/
def execIdRejNone (_i : Fin 5) (s : State) : Host.Outcome State Fault Refusal :=
  .next (s.rejectRow .badSym)

/-- `FIX_BIT0` (42_packet_validator.md R146): `f[5+j]` = 0. -/
def execFixBit0 (j : Fin 7) (s : State) : Host.Outcome State Fault Refusal :=
  .next (s.setFixBit j false)

/-- `FIX_BIT1` (42_packet_validator.md R147): `f[5+j]` = 1. -/
def execFixBit1 (j : Fin 7) (s : State) : Host.Outcome State Fault Refusal :=
  .next (s.setFixBit j true)

/-- `FIX_REJ_FLOATING` (42_packet_validator.md R148): the row is rejected with RJ_FIXDOM, whichever of
the seven symbols it is. -/
def execFixRejFloating (_j : Fin 7) (s : State) : Host.Outcome State Fault Refusal :=
  .next (s.rejectRow .fixDom)

/-- `FIX_REJ_NONE` (42_packet_validator.md R149): the row is rejected with RJ_BADSYM, whichever of the
seven symbols it is. -/
def execFixRejNone (_j : Fin 7) (s : State) : Host.Outcome State Fault Refusal :=
  .next (s.rejectRow .badSym)

/-- `SYNC_OK` (42_packet_validator.md R141): `sync_ok` = 1. -/
def execSyncOk (s : State) : Host.Outcome State Fault Refusal :=
  .next (s.setSync true)

/-- `SYNC_FAIL` (42_packet_validator.md R141): `sync_ok` = 0, and the row is rejected with RJ_SYNC
(60_exceptions.md R205). -/
def execSyncFail (s : State) : Host.Outcome State Fault Refusal :=
  .next ((s.setSync false).rejectRow .sync)

/-- `ROW_ACCEPT` (42_packet_validator.md R153): the standalone packet_validator's outputs for the row
word, `(1, id)` if it matches and `(0, 0)` otherwise, with the cause that its checks find first
(60_exceptions.md R210). The core contains no packet_validator of this form (43_core_sequencer.md R170),
so no register changes. -/
def execRowAccept (w : RowWord) (s : State) : Host.Outcome State Fault Refusal :=
  .next ((s.setPv (rowAcceptResult s.cfg.idOrder w)).setCause (rowCause w))

end Sys2Proof.Machine
end

