-- ==== Sys2Proof/Machine/Sequencer.lean ====
section
/-! DEFINITION. The STATE and CTRL families: the core_sequencer's rule for each state
(43_core_sequencer.md R176 to R183) and the host's three commands (R173 to R175). Each is the effect of
one clock edge; all writes of an edge are simultaneous (00_scope.md R9). -/

namespace Sys2Proof.Machine

/-! ### One rule per state -/

/-- IDLE (43_core_sequencer.md R176). -/
def ruleIdle (s : State) : State := if s.ports.start then s.goto .select else s

/-- SELECT (43_core_sequencer.md R177): the one cycle in which the buffer ports are read. -/
def ruleSelect (s : State) : State :=
  let r := matcher s.cfg s.ports.buf
  let t := s.setMatch r
  if r.1 then (t.setRow (s.ports.buf.word r.2)).goto .checkSync
  else t.reject (selectCause s.cfg s.ports.buf)

/-- CHECK_SYNC (43_core_sequencer.md R178). -/
def ruleCheckSync (s : State) : State :=
  let ok := syncOk s.regs.rowQ
  let t := s.setSync ok
  if ok then t.goto .decode else t.reject .sync

/-- DECODE (43_core_sequencer.md R179): all twelve symbols are written, or none. -/
def ruleDecode (s : State) : State :=
  let v := rowLanes s.regs.rowQ
  let t := s.setLanes v
  if allOk v then (t.setSyms (laneSyms v)).goto .validateFixed else t.reject .badSym

/-- VALIDATE_FIXED (43_core_sequencer.md R180). -/
def ruleValidateFixed (s : State) : State :=
  if anyFixFloating s.regs.symQ then s.reject .fixDom
  else
    let f := fixBits s.regs.symQ
    let t := s.setFixBits f
    if fixAsm f ≠ kFixedValue then t.reject .fixVal else t.goto .validateId

/-- VALIDATE_ID (43_core_sequencer.md R181); a match labels no rejection (60_exceptions.md R200). -/
def ruleValidateId (s : State) : State :=
  if anyIdHigh s.regs.symQ then s.reject .idDom
  else
    let b := idBits s.regs.symQ
    (((s.setIdBits b).setResult true (idAsm s.cfg.idOrder b)).setCause .none).goto .emit

/-- REJECT (43_core_sequencer.md R182). -/
def ruleReject (s : State) : State := s.leaveReject

/-- EMIT (43_core_sequencer.md R183). -/
def ruleEmit (s : State) : State := s.goto .idle

/-- The rule of the current state (43_core_sequencer.md R172). -/
def stateRule (s : State) : State :=
  match s.regs.state with
  | .idle => ruleIdle s
  | .select => ruleSelect s
  | .checkSync => ruleCheckSync s
  | .decode => ruleDecode s
  | .validateFixed => ruleValidateFixed s
  | .validateId => ruleValidateId s
  | .reject => ruleReject s
  | .emit => ruleEmit s

/-! ### The STATE operations -/

/-- `ST_IDLE` (43_core_sequencer.md R176). -/
def execStIdle (s : State) : Host.Outcome State Fault Refusal := .next (ruleIdle s)

/-- `ST_SELECT` (43_core_sequencer.md R177). -/
def execStSelect (s : State) : Host.Outcome State Fault Refusal := .next (ruleSelect s)

/-- `ST_CHECK_SYNC` (43_core_sequencer.md R178). -/
def execStCheckSync (s : State) : Host.Outcome State Fault Refusal := .next (ruleCheckSync s)

/-- `ST_DECODE` (43_core_sequencer.md R179). -/
def execStDecode (s : State) : Host.Outcome State Fault Refusal := .next (ruleDecode s)

/-- `ST_VALIDATE_FIXED` (43_core_sequencer.md R180). -/
def execStValidateFixed (s : State) : Host.Outcome State Fault Refusal := .next (ruleValidateFixed s)

/-- `ST_VALIDATE_ID` (43_core_sequencer.md R181). -/
def execStValidateId (s : State) : Host.Outcome State Fault Refusal := .next (ruleValidateId s)

/-- `ST_REJECT` (43_core_sequencer.md R182). -/
def execStReject (s : State) : Host.Outcome State Fault Refusal := .next (ruleReject s)

/-- `ST_EMIT` (43_core_sequencer.md R183). -/
def execStEmit (s : State) : Host.Outcome State Fault Refusal := .next (ruleEmit s)

/-! ### The CTRL operations -/

/-- `CMD_RESET`, CTRL `1x` (43_core_sequencer.md R173): every register takes its reset value, whatever the
state, `start` and the buffer are. -/
def execCmdReset (start : Bool) (s : State) : Host.Outcome State Fault Refusal :=
  .next (s.setCtrl true start).resetRegs

/-- `CMD_START`, CTRL `01` (43_core_sequencer.md R174): in IDLE the core goes to SELECT; in any other
state `start` has no effect and the step is that state's rule (R175). -/
def execCmdStart (s : State) : Host.Outcome State Fault Refusal :=
  .next (stateRule (s.setCtrl false true))

/-- `CMD_NOP`, CTRL `00` (43_core_sequencer.md R175): the step is the current state's rule. -/
def execCmdNop (s : State) : Host.Outcome State Fault Refusal :=
  .next (stateRule (s.setCtrl false false))

end Sys2Proof.Machine
end

