-- ==== Sys2Proof/Machine/SymbolDecoder.lean ====
section
/-! DEFINITION. The PAIR family: what one line_code_symbol_decoder lane does with each of the four pairs
(41_symbol_decoder.md R121 to R124). A lane holds no state (R120): only its output signals change, and a
pair that is no symbol rejects the row. -/

namespace Sys2Proof.Machine

/-- Lane `i` answers `LCSD(p)` (41_symbol_decoder.md R120, R126). -/
def laneEval (i : Fin 12) (p : Pair) (s : State) : State := s.setLane i (lcsd p)

/-- `SYM_LOW` (41_symbol_decoder.md R121). -/
def execSymLow (i : Fin 12) (s : State) : Host.Outcome State Fault Refusal :=
  .next (laneEval i 0b11#2 s)

/-- `SYM_HIGH` (41_symbol_decoder.md R122). -/
def execSymHigh (i : Fin 12) (s : State) : Host.Outcome State Fault Refusal :=
  .next (laneEval i 0b00#2 s)

/-- `SYM_FLOATING` (41_symbol_decoder.md R123). -/
def execSymFloating (i : Fin 12) (s : State) : Host.Outcome State Fault Refusal :=
  .next (laneEval i 0b10#2 s)

/-- `SYM_NONE` (41_symbol_decoder.md R124): the lane answers NONE with `sym_ok` = 0, and the row is
rejected with RJ_BADSYM (60_exceptions.md R206). -/
def execSymNone (i : Fin 12) (s : State) : Host.Outcome State Fault Refusal :=
  .next ((laneEval i 0b01#2 s).rejectRow .badSym)

end Sys2Proof.Machine
end

