-- ==== Sys2Proof/Machine/Dispatch.lean ====
section
/-! DEFINITION. One arm per operation of spec/opcode_table.json, each a direct call of its meaning. -/

namespace Sys2Proof.Machine

def exec (i : Instr) (s : State) : Host.Outcome State Fault Refusal :=
  match i with
  | .symLow k => Sys2Proof.Machine.execSymLow k s
  | .symHigh k => Sys2Proof.Machine.execSymHigh k s
  | .symFloating k => Sys2Proof.Machine.execSymFloating k s
  | .symNone k => Sys2Proof.Machine.execSymNone k s
  | .idBit1 k => Sys2Proof.Machine.execIdBit1 k s
  | .idBit0 k => Sys2Proof.Machine.execIdBit0 k s
  | .idRejHigh k => Sys2Proof.Machine.execIdRejHigh k s
  | .idRejNone k => Sys2Proof.Machine.execIdRejNone k s
  | .fixBit0 j => Sys2Proof.Machine.execFixBit0 j s
  | .fixBit1 j => Sys2Proof.Machine.execFixBit1 j s
  | .fixRejFloating j => Sys2Proof.Machine.execFixRejFloating j s
  | .fixRejNone j => Sys2Proof.Machine.execFixRejNone j s
  | .syncOk => Sys2Proof.Machine.execSyncOk s
  | .syncFail => Sys2Proof.Machine.execSyncFail s
  | .rowAccept w => Sys2Proof.Machine.execRowAccept w s
  | .cmdReset start => Sys2Proof.Machine.execCmdReset start s
  | .cmdStart => Sys2Proof.Machine.execCmdStart s
  | .cmdNop => Sys2Proof.Machine.execCmdNop s
  | .stIdle => Sys2Proof.Machine.execStIdle s
  | .stSelect => Sys2Proof.Machine.execStSelect s
  | .stCheckSync => Sys2Proof.Machine.execStCheckSync s
  | .stDecode => Sys2Proof.Machine.execStDecode s
  | .stValidateFixed => Sys2Proof.Machine.execStValidateFixed s
  | .stValidateId => Sys2Proof.Machine.execStValidateId s
  | .stReject => Sys2Proof.Machine.execStReject s
  | .stEmit => Sys2Proof.Machine.execStEmit s

end Sys2Proof.Machine
end

