-- ==== Sys2Proof/Machine/Fetch.lean ====
section
/-! DEFINITION. What one step takes from the host: the next line of the host command notation
(30_encoding.md R84, R85) drives the ports, and the control port and the `state` register select the
operation of the cycle (43_core_sequencer.md R172). -/

namespace Sys2Proof.Machine

/-- What a fetched line asks of the machine. -/
inductive Work where
  /-- A clock cycle whose edge runs the operation. -/
  | edge (i : Instr)
  /-- A word on a standalone sub-block: the operation settles and no clock edge follows. -/
  | settle (i : Instr)
  /-- A line that occupies no cycle and runs no operation. -/
  | quiet
deriving DecidableEq, Repr

/-- The operation of a clock cycle (43_core_sequencer.md R172): the reset if `rst` = 1, otherwise the
operation that `state` selects. -/
def cycleInstr (s : State) : Instr :=
  if s.ports.rst then .cmdReset s.ports.start else stateInstr s.regs.state

/-- The host drives the CTRL word `{rst, start}` for one cycle (30_encoding.md R74, R84). -/
def driveCtrl (c : BitVec 2) (s : State) : State :=
  (s.setCtrl (c.getLsbD 1) (c.getLsbD 0)).nextCycle

/-- The buffer on the ports in cycle `n` of a host without lines: free values that fit the ports. -/
def freeBuffer (c : Config) (n : Nat) : Buffer :=
  { rowCount := Config.freeRowCount n % 2 ^ c.cntW
    rows := Memory.ofEntries ((List.range c.nrowsMax).map fun k =>
      { slot := k, len := Config.freeRowLen n k % 2 ^ c.lenW, word := Config.freeRowWord n k }) }

/-- A cycle of a host without lines: what it drives is free (log entry 3). -/
def driveFree (s : State) : State :=
  ((s.setBuffer (freeBuffer s.cfg s.cycle)).setCtrl (Config.freeRst s.cycle)
    (Config.freeStart s.cycle)).nextCycle

/-- The line that `WAITDONE` leaves: none in the first cycle in which `done` = 1, itself before it
(30_encoding.md R85). -/
def afterWait (s : State) (rest : List HostLine) : List HostLine :=
  if s.regs.done then rest else .waitDone :: rest

/-- Why a `.buf` line cannot be driven, the first reason that applies. -/
def bufFault (c : Config) (b : BufLine) : Option Fault :=
  if b.slotsExist c = false then some .noSuchSlot
  else if b.countFits c = false then some .countTooWide
  else if b.lensFit c = false then some .lengthTooWide
  else if b.slotsDistinct = false then some .slotListedTwice
  else none

/-- The operation of a word on a standalone sub-block. On the packet_validator's row port every 25-bit
word is evaluated, since 42_packet_validator.md R153 gives the result of a word that does not match too. -/
def presented (b : BlockSite) (w : Nat) : Option Instr :=
  match b with
  | .row => if w < 2 ^ 25 then some (.rowAccept (BitVec.ofNat 25 w)) else none
  | .pair i => (decode (.pair i) w).toOption
  | .idPair i => (decode (.idPair i) w).toOption
  | .fixPair j => (decode (.fixPair j) w).toOption
  | .sync => (decode .sync w).toOption

/-- The next line's work, and the state in which its ports are driven. -/
def fetch (s : State) : Host.Outcome (Work × State) Fault Refusal :=
  match s.host with
  | [] => .next (.edge (cycleInstr (driveFree s)), driveFree s)
  | .cycle c :: rest =>
    let t := driveCtrl c (s.setHost rest)
    .next (.edge (cycleInstr t), t)
  | .waitDone :: rest =>
    let t := driveCtrl 0b00#2 (s.setHost (afterWait s rest))
    .next (.edge (cycleInstr t), t)
  | .decode :: rest =>
    let t := driveCtrl 0b01#2 (s.setHost (.waitDone :: rest))
    .next (.edge (cycleInstr t), t)
  | .reset :: rest =>
    let t := driveCtrl 0b10#2 (s.setHost (HostLine.nop :: rest))
    .next (.edge (cycleInstr t), t)
  | .buf b :: rest =>
    match bufFault s.cfg b with
    | some f => .fault f
    | none => .next (.quiet, (s.setHost rest).setBuffer (bufferOfLine b))
  | .present b w :: rest =>
    match presented b w with
    | some i => .next (.settle i, s.setHost rest)
    | none => .refused .noOperation
  | .matchRows :: rest =>
    .next (.quiet, (s.setHost rest).setMatch (matcher s.cfg s.ports.buf))

/-- What stands after an operation that settles without a clock edge: its signals, and nothing that only
an edge can change (10_state.md R29, R34). -/
def settled (s : State) : Host.Outcome State Fault Refusal → Host.Outcome State Fault Refusal
  | .next t => .next { s with nets := t.nets }
  | .fault f => .fault f
  | .refused r => .refused r

/-- The host lines and the `state` register that make the next step run the operation that a word of
the opcode table selects (log entry 10). -/
def placeWord (s : State) (nbits w : Nat) : State :=
  match tableSite nbits with
  | some .state =>
    match seqStateOfCode w with
    | some st => (s.goto st).setHost (HostLine.nop :: s.host)
    | none => s.setHost (.present (.pair 0) (w + 4) :: s.host)
  | some .sync => s.setHost (.present .sync w :: s.host)
  | some .row => s.setHost (.present .row w :: s.host)
  | some (.pair i) => s.setHost (.present (.pair i) w :: s.host)
  | some (.idPair i) => s.setHost (.present (.idPair i) w :: s.host)
  | some (.fixPair j) => s.setHost (.present (.fixPair j) w :: s.host)
  | some .ctrl => s.setHost (.cycle (BitVec.ofNat 2 w) :: s.host)
  | none => s.setHost (.present (.pair 0) (w + 4) :: s.host)

end Sys2Proof.Machine
end

