-- ==== Sys2Proof/Machine/Step.lean ====
section
/-! DEFINITION. One step: the next host line, and the operation it makes the machine run
(43_core_sequencer.md R172). -/

namespace Sys2Proof.Machine

/-- One step of the machine. A line that occupies a cycle runs the operation of that cycle's clock edge;
a word on a standalone sub-block settles; a directive only changes the ports. -/
def step (s : State) : Host.Outcome State Fault Refusal :=
  match fetch s with
  | .next (.edge i, t) => exec i t
  | .next (.settle i, t) => settled t (exec i t)
  | .next (.quiet, t) => .next t
  | .fault f => .fault f
  | .refused r => .refused r

/-- `s` with a table word placed where the next step runs it (log entry 10). -/
def State.withFetchWord (s : State) (nbits w : Nat) : State := placeWord s nbits w

end Sys2Proof.Machine
end

