-- ==== Sys2Proof/Safety.lean ====
section
/-! DEFINITION. The terms that claims about the machine use: the well-formed buffer, the invariant of a
decode, and what a state looks like without the signals that are no registers. -/

namespace Sys2Proof.Machine

/-- What the ports of an instance can carry: a count of `CNT_W` bits, rows in canonical form, no slot
beyond `NROWS_MAX`, and lengths of `LEN_W` bits (10_state.md R30, 20_memory.md R50). -/
def Buffer.wf (c : Config) (b : Buffer) : Prop :=
  b.rowCount < 2 ^ c.cntW ∧ Memory.wf b.rows ∧
    ∀ e ∈ b.rows, e.1 < c.nrowsMax ∧ e.2.len < 2 ^ c.lenW

/-- What is known of the registers in each state of the sequencer: no entry of `sym_q` is NONE
(10_state.md R25), `id` is 0 whenever `status` is 0 (10_state.md R32), and each state holds what the
states before it have checked (42_packet_validator.md R155). -/
def State.decodeInv (s : State) : Prop :=
  (s.regs.resStatus = false → s.regs.resId = 0#5) ∧
  (∀ i : Fin 12, s.regs.symQ[i] ≠ .none) ∧
  match s.regs.state with
  | .idle => True
  | .select => True
  | .checkSync => True
  | .decode => syncOk s.regs.rowQ = true
  | .validateFixed =>
    syncOk s.regs.rowQ = true ∧ allOk (rowLanes s.regs.rowQ) = true ∧
      s.regs.symQ = laneSyms (rowLanes s.regs.rowQ)
  | .validateId =>
    syncOk s.regs.rowQ = true ∧ allOk (rowLanes s.regs.rowQ) = true ∧
      s.regs.symQ = laneSyms (rowLanes s.regs.rowQ) ∧ fixOk s.regs.symQ = true
  | .reject => s.regs.resStatus = false
  | .emit => pv s.cfg.idOrder s.regs.rowQ = (s.regs.resStatus, s.regs.resId) ∧ s.regs.resStatus = true

/-- The invariant of the machine. -/
def State.Inv (s : State) : Prop := Buffer.wf s.cfg s.ports.buf ∧ s.decodeInv

/-- An outcome with the signals that are no registers forgotten. -/
def forgetNets : Host.Outcome State Fault Refusal → Host.Outcome State Fault Refusal
  | .next t => .next { t with nets := Nets.silent }
  | .fault f => .fault f
  | .refused r => .refused r

/-- The host drives `rst` = 0 in every cycle of the next `n` steps: after each of them the control port shows
it. What the port showed before them does not matter if the first of them is a cycle. -/
def rstLow : Nat → State → Bool
  | 0, _ => true
  | n + 1, s =>
    match step s with
    | .next t => !t.ports.rst && rstLow n t
    | .fault _ => true
    | .refused _ => true

/-- The row word `w` with the bit at row position `p` flipped. -/
def flipPos (w : RowWord) (p : Nat) : RowWord := w ^^^ (1#25 <<< (24 - p))

/-- The operations that only the clocked core runs: CTRL and STATE (30_encoding.md R74, R75). -/
def isClocked : Instr → Bool
  | .cmdReset _ | .cmdStart | .cmdNop => true
  | .stIdle | .stSelect | .stCheckSync | .stDecode => true
  | .stValidateFixed | .stValidateId | .stReject | .stEmit => true
  | .symLow _ | .symHigh _ | .symFloating _ | .symNone _ => false
  | .idBit1 _ | .idBit0 _ | .idRejHigh _ | .idRejNone _ => false
  | .fixBit0 _ | .fixBit1 _ | .fixRejFloating _ | .fixRejNone _ => false
  | .syncOk | .syncFail | .rowAccept _ => false

end Sys2Proof.Machine
end

