-- ==== Sys2Proof/Certificates/Slice0/Obligations.lean ====
section
/-! DEFINITION. The statements for the provers. Each names the rules of spec/ that it rests on; where a
clause rests on a choice of the model, its docstring names the log entry. -/

open Sys2Proof Sys2Proof.Machine

/-! ### Encoding -/

/-- 30_encoding.md R70 to R81. The decoder and the encoder agree in both directions: no operand bit of a
well-formed operation is dropped, and no other word of a site decodes to it. -/
def Obligations.DecodeAndEncodeAgree : Prop :=
  (∀ i : Instr, i.wellFormed = true → decode (encode i).1 (encode i).2 = .ok i) ∧
  (∀ (site : Site) (w : Nat) (i : Instr),
    decode site w = .ok i → i.wellFormed = true ∧ encode i = (site, w))

/-- 30_encoding.md R81: every pattern of PAIR, IDPAIR, FIXPAIR, SYNC, CTRL and STATE has an operation, and
a ROW word has one exactly when it matches; a number wider than the format has none. -/
def Obligations.EveryPatternHasItsOperation : Prop :=
  (∀ (site : Site) (w : Nat), site ≠ .row →
    ((∃ i, decode site w = .ok i) ↔ w < 2 ^ site.width)) ∧
  (∀ w : Nat, (∃ i, decode .row w = .ok i) ↔
    w < 2 ^ 25 ∧ BitVec.ofNat 25 w &&& 0x1557FFF#25 = 0x15561FF#25) ∧
  (∀ w : Nat, w < 2 ^ 25 → BitVec.ofNat 25 w &&& 0x1557FFF#25 ≠ 0x15561FF#25 →
    decode .row w = .error .rowRejected)

/-- Words written out from the tables of 30_encoding.md R71, R74, R75, R77, R78 and R80. -/
def Obligations.WordsOfTheSpecDecode : Prop :=
  decode (.pair 2) 0b11 = .ok (.symLow 2) ∧ decode (.pair 6) 0b00 = .ok (.symHigh 6) ∧
  decode (.idPair 0) 0b10 = .ok (.idBit0 0) ∧ decode (.fixPair 1) 0b00 = .ok (.fixBit1 1) ∧
  decode .sync 0b1 = .ok .syncOk ∧ decode .row 0x15DE1FF = .ok (.rowAccept 0x15DE1FF#25) ∧
  decode .ctrl 0b11 = .ok (.cmdReset true) ∧ decode .ctrl 0b01 = .ok .cmdStart ∧
  decode .state 0b101 = .ok .stValidateId

/-! ### PAIR -/

/-- 41_symbol_decoder.md R121, R122, R123: lane `i` answers the symbol with `sym_ok` = 1, and nothing else
changes. That the answer stays in the state is the model's form (log entry 5). -/
def Obligations.SymbolOperationsAnswer : Prop :=
  ∀ (i : Fin 12) (s : State),
    exec (.symLow i) s =
      .next { s with nets := { s.nets with lanes := s.nets.lanes.set i ⟨.low, true⟩ } } ∧
    exec (.symHigh i) s =
      .next { s with nets := { s.nets with lanes := s.nets.lanes.set i ⟨.high, true⟩ } } ∧
    exec (.symFloating i) s =
      .next { s with nets := { s.nets with lanes := s.nets.lanes.set i ⟨.floating, true⟩ } }

/-- 41_symbol_decoder.md R124: lane `i` answers NONE with `sym_ok` = 0 and the row is rejected; a core in
DECODE, where 60_exceptions.md R206 detects the cause, takes the rejection of R211. That a core in
another state keeps its registers is the model's choice (log entry 6). -/
def Obligations.SymbolNoneRejectsTheRow : Prop :=
  ∀ (i : Fin 12) (s : State),
    exec (.symNone i) s =
      .next { s with
        nets := { s.nets with
          lanes := s.nets.lanes.set i ⟨.none, false⟩, pvOk := false, pvId := 0#5, cause := .badSym }
        regs := if s.regs.state = .decode then
            { s.regs with state := .reject, resStatus := false, resId := 0#5 }
          else s.regs }

/-- 41_symbol_decoder.md R125: the gate equations compute LCSD. -/
def Obligations.LcsdGateEquations : Prop :=
  ∀ p : Pair,
    (lcsd p).sym.code.getLsbD 1 = (p.getLsbD 1 ^^ p.getLsbD 0) ∧
    (lcsd p).sym.code.getLsbD 0 = !(p.getLsbD 1) ∧
    (lcsd p).ok = (p.getLsbD 1 || !(p.getLsbD 0))

/-- 41_symbol_decoder.md R126 with 43_core_sequencer.md R179: ST_DECODE evaluates, at every lane, the PAIR
operation that the lane's pair decodes to; and in DECODE it rejects exactly as SYM_NONE does, as soon as
one pair is no symbol. That a lane still shows its outputs after the edge is the model's choice (log entry
5); that SYM_NONE takes the rejection in DECODE, and that its cause can be read, is log entry 6. -/
def Obligations.DecodeRunsTheLaneOperations : Prop :=
  ∀ s : State, ∃ t, exec .stDecode s = .next t ∧
    (∀ i : Fin 12, ∃ op u, decode (.pair i) (pairAt s.regs.rowQ i).toNat = .ok op ∧
      exec op s = .next u ∧ t.nets.lanes[i] = u.nets.lanes[i]) ∧
    (s.regs.state = .decode → ∀ i : Fin 12,
      decode (.pair i) (pairAt s.regs.rowQ i).toNat = .ok (.symNone i) →
      ∃ u, exec (.symNone i) s = .next u ∧ t.regs = u.regs ∧ t.nets.cause = u.nets.cause)

/-! ### IDPAIR, FIXPAIR, SYNC, ROW -/

/-- 42_packet_validator.md R142, R143: the identifier bit of symbol `i` is 1 for LOW and 0 for FLOATING, and
nothing else changes. -/
def Obligations.IdentifierOperationsGiveTheirBit : Prop :=
  ∀ (i : Fin 5) (s : State),
    exec (.idBit1 i) s =
      .next { s with nets := { s.nets with idBits := s.nets.idBits.set i true } } ∧
    exec (.idBit0 i) s =
      .next { s with nets := { s.nets with idBits := s.nets.idBits.set i false } }

/-- 42_packet_validator.md R144, R145: the row is rejected with RJ_IDDOM or RJ_BADSYM, and there is no
identifier bit. The states in which the core takes the rejection are those of 60_exceptions.md R200; that
it keeps its registers in any other state is the model's choice (log entry 6). -/
def Obligations.IdentifierRejectionsRejectTheRow : Prop :=
  ∀ (i : Fin 5) (s : State),
    exec (.idRejHigh i) s =
      .next { s with
        nets := { s.nets with pvOk := false, pvId := 0#5, cause := .idDom }
        regs := if s.regs.state = .validateId then
            { s.regs with state := .reject, resStatus := false, resId := 0#5 }
          else s.regs } ∧
    exec (.idRejNone i) s =
      .next { s with
        nets := { s.nets with pvOk := false, pvId := 0#5, cause := .badSym }
        regs := if s.regs.state = .decode then
            { s.regs with state := .reject, resStatus := false, resId := 0#5 }
          else s.regs }

/-- 42_packet_validator.md R146, R147: the fixed-field bit of symbol `5 + j` is 0 for LOW and 1 for HIGH,
and nothing else changes. -/
def Obligations.FixedOperationsGiveTheirBit : Prop :=
  ∀ (j : Fin 7) (s : State),
    exec (.fixBit0 j) s =
      .next { s with nets := { s.nets with fixBits := s.nets.fixBits.set j false } } ∧
    exec (.fixBit1 j) s =
      .next { s with nets := { s.nets with fixBits := s.nets.fixBits.set j true } }

/-- 42_packet_validator.md R148, R149: the row is rejected with RJ_FIXDOM or RJ_BADSYM. The states in which
the core takes the rejection are those of 60_exceptions.md R200; that it keeps its registers in any other
state is the model's choice (log entry 6). -/
def Obligations.FixedRejectionsRejectTheRow : Prop :=
  ∀ (j : Fin 7) (s : State),
    exec (.fixRejFloating j) s =
      .next { s with
        nets := { s.nets with pvOk := false, pvId := 0#5, cause := .fixDom }
        regs := if s.regs.state = .validateFixed then
            { s.regs with state := .reject, resStatus := false, resId := 0#5 }
          else s.regs } ∧
    exec (.fixRejNone j) s =
      .next { s with
        nets := { s.nets with pvOk := false, pvId := 0#5, cause := .badSym }
        regs := if s.regs.state = .decode then
            { s.regs with state := .reject, resStatus := false, resId := 0#5 }
          else s.regs }

/-- 42_packet_validator.md R141: SYNC_OK gives `sync_ok` = 1 and nothing else; SYNC_FAIL gives `sync_ok` = 0
and rejects the row with RJ_SYNC, which a core in CHECK_SYNC takes. That a core in another state keeps its
registers is the model's choice (log entry 6). -/
def Obligations.SyncOperations : Prop :=
  ∀ s : State,
    exec .syncOk s = .next { s with nets := { s.nets with syncOk := true } } ∧
    exec .syncFail s =
      .next { s with
        nets := { s.nets with syncOk := false, pvOk := false, pvId := 0#5, cause := .sync }
        regs := if s.regs.state = .checkSync then
            { s.regs with state := .reject, resStatus := false, resId := 0#5 }
          else s.regs }

/-- 42_packet_validator.md R153 with R151: ROW_ACCEPT answers `(1, id)` for a word that matches, with the bits
`w[23], w[21], w[19], w[17], w[15]` weighted by `ID_ORDER`, and `(0, 0)` for any other; no register or port
changes. The label `c` that goes with it is 60_exceptions.md R210's, kept as log entry 6 says. -/
def Obligations.RowAcceptAnswers : Prop :=
  ∀ (w : RowWord) (s : State),
    exec (.rowAccept w) s =
      .next { s with nets := { s.nets with
        pvOk := w &&& 0x1557FFF#25 == 0x15561FF#25
        pvId := if w &&& 0x1557FFF#25 = 0x15561FF#25 then
            (match s.cfg.idOrder with
            | .msbFirst => BitVec.ofBool (w.getLsbD 23) ++ BitVec.ofBool (w.getLsbD 21) ++
                BitVec.ofBool (w.getLsbD 19) ++ BitVec.ofBool (w.getLsbD 17) ++
                BitVec.ofBool (w.getLsbD 15)
            | .lsbFirst => BitVec.ofBool (w.getLsbD 15) ++ BitVec.ofBool (w.getLsbD 17) ++
                BitVec.ofBool (w.getLsbD 19) ++ BitVec.ofBool (w.getLsbD 21) ++
                BitVec.ofBool (w.getLsbD 23))
          else 0#5
        cause := rowCause w } }

/-- 42_packet_validator.md R150 and R153: the closed form is the packet_validator's function on all row
words; and exactly one matching word gives each identifier. -/
def Obligations.ClosedFormIsThePacketValidator : Prop :=
  (∀ w : RowWord, pv .msbFirst w =
    if w &&& 0x1557FFF#25 = 0x15561FF#25 then
      (true, BitVec.ofBool (w.getLsbD 23) ++ BitVec.ofBool (w.getLsbD 21) ++
        BitVec.ofBool (w.getLsbD 19) ++ BitVec.ofBool (w.getLsbD 17) ++ BitVec.ofBool (w.getLsbD 15))
    else (false, 0#5)) ∧
  (∀ id : Ident, ∃! w : RowWord, w &&& 0x1557FFF#25 = 0x15561FF#25 ∧ (pv .msbFirst w).2 = id)

/-- 42_packet_validator.md R156: under either `ID_ORDER`, a row with the sync bit and the fixed field valid and
every identifier symbol LOW or FLOATING is accepted, and the accepted rows and the identifiers 0 to 31
correspond one to one. -/
def Obligations.IdentifiersAreABijection : Prop :=
  (∀ (o : IdOrder) (w : RowWord), w.getLsbD 0 = true →
    (∀ j : Fin 7, (lcsd (pairAt w (fixIndex j))).sym = if j = 1 ∨ j = 2 then .high else .low) →
    (∀ i : Fin 5, (lcsd (pairAt w (idIndex i))).sym = .low ∨
      (lcsd (pairAt w (idIndex i))).sym = .floating) →
    (pv o w).1 = true) ∧
  ∀ (o : IdOrder) (id : Ident), ∃! w : RowWord, pv o w = (true, id)

/-- 42_packet_validator.md R157: flipping one bit at row positions 10 to 23 of an accepted row gives a
rejected row, with cause RJ_BADSYM or RJ_FIXDOM. -/
def Obligations.FixedFieldFlipsReject : Prop :=
  ∀ (o : IdOrder) (w : RowWord) (p : Nat), (pv o w).1 = true → 10 ≤ p → p ≤ 23 →
    pv o (flipPos w p) = (false, 0#5) ∧
    (rowCause (flipPos w p) = .badSym ∨ rowCause (flipPos w p) = .fixDom)

/-- 60_exceptions.md R210 and 42_packet_validator.md R155: a row word has no cause exactly when the
packet_validator accepts it, under either `ID_ORDER`. -/
def Obligations.NoCauseExactlyOnAcceptance : Prop :=
  ∀ (o : IdOrder) (w : RowWord), rowCause w = .none ↔ (pv o w).1 = true

/-! ### The buffer and the repetition_matcher -/

/-- 20_memory.md R54: in a row stored in bytes, byte `p / 8` carries row position `p` at its bit `7 - p % 8`;
the low seven bits of the last byte are presented nowhere. -/
def Obligations.StoredBytesGiveRowPositions : Prop :=
  (∀ (b0 b1 b2 b3 : Byte) (p : Nat), p < 25 →
    rowPos (rowOfBytes b0 b1 b2 b3) p =
      (if p < 8 then b0 else if p < 16 then b1 else if p < 24 then b2 else b3).getLsbD (7 - p % 8)) ∧
  rowOfBytes 0xae#8 0xf0#8 0xff#8 0x80#8 = 0x15DE1FF#25

/-- 40_repetition_matcher.md R104: the count of slot `k` never exceeds the effective row count. -/
def Obligations.OccurrencesAreBounded : Prop :=
  ∀ (c : Config) (b : Buffer) (k : Nat),
    occurrences c b k ≤ effCount c b ∧ effCount c b ≤ c.nrowsMax

/-- 40_repetition_matcher.md R102 to R105: slot `k` qualifies exactly when it is a present row of length 25
whose word at least three other present rows of length 25 have too, that is at least four with itself. -/
def Obligations.QualifyingMeansFourEqualRows : Prop :=
  ∀ (c : Config) (b : Buffer) (k : Nat),
    hit c b k = true ↔
      (k < min b.rowCount c.nrowsMax ∧ b.len k = 25) ∧
      3 ≤ ((List.range (min b.rowCount c.nrowsMax)).filter fun j =>
        j ≠ k ∧ b.len j = 25 ∧ b.word j = b.word k).length

/-- 40_repetition_matcher.md R106 and R107: `found` says that some slot qualifies, `index` is then the lowest
slot that does, and 0 when none does; `index` fits `IDX_W` bits (00_scope.md R6) of a legal instance. -/
def Obligations.TheLowestQualifyingSlotIsSelected : Prop :=
  ∀ (c : Config) (b : Buffer),
    ((matcher c b).1 = true ↔ ∃ k, hit c b k = true) ∧
    ((matcher c b).1 = true → hit c b (matcher c b).2 = true ∧
      ∀ k, hit c b k = true → (matcher c b).2 ≤ k) ∧
    ((matcher c b).1 = false → (matcher c b).2 = 0) ∧
    (c.wf → (matcher c b).2 < 2 ^ c.idxW)

/-- 40_repetition_matcher.md R108: with fewer than four rows nothing is found, whatever the rows hold, and
the decode rejects. -/
def Obligations.FewerThanFourRowsReject : Prop :=
  ∀ (c : Config) (b : Buffer), effCount c b < 4 →
    (matcher c b).1 = false ∧ decodeBuffer c b = (false, 0#5) ∧ decodeCause c b = .rowCount

/-- 20_memory.md R52 and 40_repetition_matcher.md R111: two buffers with the same effective count that agree
on the present slots select alike and decode alike, with the same cause. -/
def Obligations.AbsentSlotsHaveNoEffect : Prop :=
  ∀ (c : Config) (b d : Buffer), effCount c b = effCount c d →
    (∀ k < effCount c b, b.len k = d.len k ∧ b.word k = d.word k) →
    matcher c b = matcher c d ∧ decodeBuffer c b = decodeBuffer c d ∧
      decodeCause c b = decodeCause c d

/-- 20_memory.md R55: the words of rows whose length is not 25 have no effect. -/
def Obligations.RowsOfOtherLengthsHaveNoEffect : Prop :=
  ∀ (c : Config) (b d : Buffer), effCount c b = effCount c d →
    (∀ k < effCount c b, (b.len k = 25 ↔ d.len k = 25) ∧
      (b.len k = 25 → b.word k = d.word k)) →
    decodeBuffer c b = decodeBuffer c d ∧ decodeCause c b = decodeCause c d

/-! ### The STATE operations -/

/-- 43_core_sequencer.md R176. -/
def Obligations.IdleWaitsForStart : Prop :=
  ∀ s : State,
    exec .stIdle s =
      .next { s with regs := if s.ports.start then { s.regs with state := .select } else s.regs } ∧
    (s.regs.state = .idle → s.regs.busy = false ∧ s.regs.done = false)

/-- 43_core_sequencer.md R177 with 60_exceptions.md R202 to R204 and R211: SELECT keeps the selected row's
word and goes to CHECK_SYNC, or rejects with the cause of R210. That the matcher's outputs stay in the state
is the model's choice (log entry 5), and that the label does is log entry 6. -/
def Obligations.SelectTakesTheRepeatedRow : Prop :=
  ∀ s : State,
    exec .stSelect s =
      .next { s with
        nets := { s.nets with
          found := (matcher s.cfg s.ports.buf).1
          index := (matcher s.cfg s.ports.buf).2
          cause :=
            if (matcher s.cfg s.ports.buf).1 then s.nets.cause
            else if min s.ports.buf.rowCount s.cfg.nrowsMax < 4 then .rowCount
            else if ∃ k < min s.ports.buf.rowCount s.cfg.nrowsMax, s.ports.buf.len k = 25 then .noRepeat
            else .noLen }
        regs := if (matcher s.cfg s.ports.buf).1 then
            { s.regs with state := .checkSync, rowQ := s.ports.buf.word (matcher s.cfg s.ports.buf).2 }
          else { s.regs with state := .reject, resStatus := false, resId := 0#5 } }

/-- 43_core_sequencer.md R178 with 60_exceptions.md R205. -/
def Obligations.CheckSyncTestsRowPositionTwentyFour : Prop :=
  ∀ s : State, ∃ n : Nets,
    exec .stCheckSync s =
      .next { s with
        nets := n
        regs := if s.regs.rowQ.getLsbD 0 then { s.regs with state := .decode }
          else { s.regs with state := .reject, resStatus := false, resId := 0#5 } } ∧
    (s.regs.rowQ.getLsbD 0 = false → n.cause = .sync)

/-- 43_core_sequencer.md R179 with 60_exceptions.md R206: all twelve symbols are written together, or the
row is rejected because some pair is 0b01 and `sym_q` keeps its value. -/
def Obligations.DecodeWritesAllSymbolsOrNone : Prop :=
  ∀ s : State, ∃ (n : Nets) (v : Vector Sym 12),
    (∀ i : Fin 12, v[i] = (lcsd (pairAt s.regs.rowQ i)).sym) ∧
    exec .stDecode s =
      .next { s with
        nets := n
        regs := if ∃ i : Fin 12, pairAt s.regs.rowQ i = 0b01#2 then
            { s.regs with state := .reject, resStatus := false, resId := 0#5 }
          else { s.regs with state := .validateFixed, symQ := v } } ∧
    ((∃ i : Fin 12, pairAt s.regs.rowQ i = 0b01#2) → n.cause = .badSym)

/-- 43_core_sequencer.md R180 with 60_exceptions.md R207 and R208, for entries of `sym_q` that are symbols
(10_state.md R25). -/
def Obligations.ValidateFixedComparesWithFortyEight : Prop :=
  ∀ s : State, (∀ i : Fin 12, s.regs.symQ[i] ≠ .none) → ∃ n : Nets,
    exec .stValidateFixed s =
      .next { s with
        nets := n
        regs := if (∀ j : Fin 7, s.regs.symQ[fixIndex j] ≠ .floating) ∧
              fixAsm (Vector.ofFn fun j : Fin 7 => s.regs.symQ[fixIndex j] == .high) = 48#7 then
            { s.regs with state := .validateId }
          else { s.regs with state := .reject, resStatus := false, resId := 0#5 } } ∧
    ((∃ j : Fin 7, s.regs.symQ[fixIndex j] = .floating) → n.cause = .fixDom) ∧
    ((∀ j : Fin 7, s.regs.symQ[fixIndex j] ≠ .floating) →
      fixAsm (Vector.ofFn fun j : Fin 7 => s.regs.symQ[fixIndex j] == .high) ≠ 48#7 →
      n.cause = .fixVal)

/-- 42_packet_validator.md R152: the fixed check passes exactly when symbols 5 to 11 are LOW HIGH HIGH LOW
LOW LOW LOW, whatever the twelve entries are. -/
def Obligations.FixedValueIsOnePattern : Prop :=
  ∀ v : Vector Sym 12,
    fixOk v = true ↔
      v[5] = .low ∧ v[6] = .high ∧ v[7] = .high ∧ v[8] = .low ∧ v[9] = .low ∧ v[10] = .low ∧
        v[11] = .low

/-- 43_core_sequencer.md R181 with 60_exceptions.md R209 and 42_packet_validator.md R151, for entries of
`sym_q` that are symbols (10_state.md R25): HIGH rejects, otherwise the identifier of either `ID_ORDER`
is the result. -/
def Obligations.ValidateIdEmitsTheIdentifier : Prop :=
  ∀ s : State, (∀ i : Fin 12, s.regs.symQ[i] ≠ .none) → ∃ n : Nets,
    exec .stValidateId s =
      .next { s with
        nets := n
        regs := if ∃ i : Fin 5, s.regs.symQ[idIndex i] = .high then
            { s.regs with state := .reject, resStatus := false, resId := 0#5 }
          else { s.regs with
            state := .emit
            resStatus := true
            resId := idAsm s.cfg.idOrder (Vector.ofFn fun i : Fin 5 => s.regs.symQ[idIndex i] == .low) } } ∧
    n.cause = if ∃ i : Fin 5, s.regs.symQ[idIndex i] = .high then .idDom else .none

/-- 43_core_sequencer.md R182 and R183: REJECT and EMIT return to IDLE and keep every other register. -/
def Obligations.TerminalStatesReturnToIdle : Prop :=
  ∀ s : State,
    exec .stReject s = .next { s with regs := { s.regs with state := .idle } } ∧
    exec .stEmit s = .next { s with regs := { s.regs with state := .idle } } ∧
    (s.regs.state = .reject ∨ s.regs.state = .emit → s.regs.done = true ∧ s.regs.busy = true)

/-- 60_exceptions.md R211 and R212: whenever the rule of the current state takes the core into REJECT,
`res_status` and `res_id` are 0 and `row_q` and `sym_q` keep their values; and the rule of REJECT never
rejects. -/
def Obligations.RejectionEntryKeepsTheDecodedRow : Prop :=
  ∀ s t : State, exec (stateInstr s.regs.state) s = .next t → t.regs.state = .reject →
    s.regs.state ≠ .reject ∧
      t.regs = { s.regs with state := .reject, resStatus := false, resId := 0#5 }

/-! ### The CTRL operations -/

/-- 43_core_sequencer.md R173 and 70_reset_and_hazards.md R230: every register takes its value of
10_state.md R35, whatever the state, `start` and the buffer. That the cause label reads "no rejection"
is the model's choice (log entry 6). -/
def Obligations.ResetCommandResetsEveryRegister : Prop :=
  ∀ (b : Bool) (s : State),
    exec (.cmdReset b) s =
      .next { s with
        regs := { state := .idle, rowQ := 0#25, symQ := Vector.replicate 12 .low,
                  resStatus := false, resId := 0#5 }
        ports := { s.ports with rst := true, start := b }
        nets := { s.nets with cause := .none } }

/-- 43_core_sequencer.md R174 and R175 in IDLE: START goes to SELECT and keeps the previous result; NOP
stays. -/
def Obligations.CommandsInIdle : Prop :=
  ∀ s : State, s.regs.state = .idle →
    exec .cmdStart s =
      .next { s with
        regs := { s.regs with state := .select }
        ports := { s.ports with rst := false, start := true } } ∧
    exec .cmdNop s = .next { s with ports := { s.ports with rst := false, start := false } }

/-- 43_core_sequencer.md R175 and 70_reset_and_hazards.md R236: outside IDLE, START does what NOP does, that
is what the current state's operation does; only the `start` port tells them apart. -/
def Obligations.StartIsLostOutsideIdle : Prop :=
  ∀ s : State, s.regs.state ≠ .idle → ∃ t,
    exec .cmdNop s = .next t ∧
    exec .cmdStart s = .next { t with ports := { t.ports with start := true } } ∧
    ∃ u, exec (stateInstr s.regs.state) s = .next u ∧ t.regs = u.regs

/-! ### The step -/

/-- 43_core_sequencer.md R172 and 30_encoding.md R74, R75, R84: a cycle line drives its CTRL word and the step
runs the operation that the CTRL word decodes to (R173 to R175); with `rst` = 0 that is the operation that the
`state` register's word decodes to. That one edge is both operations is DEDUCED (log entry 14). -/
def Obligations.StepRunsTheDecodedOperation : Prop :=
  ∀ (s : State) (c : BitVec 2) (rest : List HostLine) (i : Instr), s.host = .cycle c :: rest →
    (decode .ctrl c.toNat = .ok i →
      step s = exec i { s with
        host := rest, cycle := s.cycle + 1
        ports := { s.ports with rst := c.getLsbD 1, start := c.getLsbD 0 } }) ∧
    (c.getLsbD 1 = false → decode .state s.regs.state.code.toNat = .ok i →
      step s = exec i { s with
        host := rest, cycle := s.cycle + 1
        ports := { s.ports with rst := false, start := c.getLsbD 0 } })

/-- 10_state.md R34 (the model's line `present`, log entry 7): a word on a standalone sub-block runs the
operation it decodes to, without a clock edge: only the signals that are no registers change. On the
packet_validator's port every row word runs ROW_ACCEPT, one that does not match too
(42_packet_validator.md R153). -/
def Obligations.StepRunsThePresentedWord : Prop :=
  ∀ (s : State) (b : BlockSite) (w : Nat) (rest : List HostLine) (i : Instr),
    s.host = .present b w :: rest →
    (decode b.site w = .ok i ∨ (b = .row ∧ w < 2 ^ 25 ∧ i = .rowAccept (BitVec.ofNat 25 w))) →
    ∃ u, exec i { s with host := rest } = .next u ∧
      step s = .next { s with host := rest, nets := u.nets }

/-- 10_state.md R34 with 40_repetition_matcher.md R106 and R107 (the model's line `matchRows`, log entry 7): the
standalone repetition_matcher answers, for the buffer on the ports, whether some slot qualifies, and the
lowest one that does or 0; nothing else changes. That the answer stays in the state is log entry 5. -/
def Obligations.TheStandaloneMatcherAnswers : Prop :=
  ∀ (s : State) (rest : List HostLine), s.host = .matchRows :: rest →
    ∃ (f : Bool) (k : Nat),
      step s = .next { s with host := rest, nets := { s.nets with found := f, index := k } } ∧
      (f = true ↔ ∃ j, hit s.cfg s.ports.buf j = true) ∧
      (f = true → hit s.cfg s.ports.buf k = true ∧ ∀ j, hit s.cfg s.ports.buf j = true → k ≤ j) ∧
      (f = false → k = 0)

/-- 30_encoding.md R84: a `.buf` directive occupies no cycle and gives the ports its count and its rows, every
unlisted slot reading length 0 and word 0. -/
def Obligations.BufferDirectiveDrivesThePorts : Prop :=
  ∀ (s : State) (b : BufLine) (rest : List HostLine),
    s.host = .buf b :: rest → b.wellFormed s.cfg = true →
    ∃ d : Buffer, step s = .next { s with host := rest, ports := { s.ports with buf := d } } ∧
      d.rowCount = b.count ∧
      (∀ e ∈ b.slots, d.len e.slot = e.len ∧ d.word e.slot = e.word) ∧
      (∀ k, (∀ e ∈ b.slots, e.slot ≠ k) → d.len k = 0 ∧ d.word k = 0#25)

/-- 30_encoding.md R85: the expansions of WAITDONE, DECODE and RESET. That WAITDONE ends with the cycle whose
registers show `done` = 1, and that this cycle's edge still takes place, is DEDUCED (log entry 13). -/
def Obligations.PseudoInstructionsExpand : Prop :=
  ∀ (s : State) (rest : List HostLine),
    step { s with host := .waitDone :: rest } =
      step { s with host := HostLine.nop :: (if s.regs.done then rest else .waitDone :: rest) } ∧
    step { s with host := .decode :: rest } =
      step { s with host := HostLine.start :: .waitDone :: rest } ∧
    step { s with host := .reset :: rest } =
      step { s with host := HostLine.rst :: HostLine.nop :: rest }

/-- No operation of the table stops the machine (60_exceptions.md R201: a rejection never stops the core;
93_implementation_defined.md: no state is ever stuck), and a step stops exactly on a host line that no
port can carry, which is the model's choice (log entry 7). -/
def Obligations.OnlyIllFormedLinesStop : Prop :=
  (∀ (i : Instr) (s : State), ∃ t, exec i s = .next t) ∧
  (∀ s : State, (∃ t, step s = .next t) ↔ ∀ l ∈ s.host.head?, l.wellFormed s.cfg = true)

/-! ### Reset, invariants, frames -/

/-- 10_state.md R35 and 70_reset_and_hazards.md R232: the registers and the outputs of every instance right
after reset. -/
def Obligations.ResetStateIsIdle : Prop :=
  ∀ c : Config,
    (State.resetOf c).regs = { state := .idle, rowQ := 0#25, symQ := Vector.replicate 12 .low,
                               resStatus := false, resId := 0#5 } ∧
    (State.resetOf c).regs.busy = false ∧ (State.resetOf c).regs.done = false ∧
    (State.resetOf c).regs.status = false ∧ (State.resetOf c).regs.id = 0#5

/-- 10_state.md R35, R36 and 70_reset_and_hazards.md R231, R233: from any registers at all, those after
power-up among them, one cycle with `rst` = 1 gives the reset values, whatever `start` is. -/
def Obligations.OneResetCycleIsEnough : Prop :=
  (∀ (s : State) (b : BitVec 2) (rest : List HostLine),
    s.host = .cycle b :: rest → b.getLsbD 1 = true →
    ∃ t, step s = .next t ∧ t.regs = Regs.reset ∧ t.host = rest) ∧
  (∀ (c : Config) (rest : List HostLine), ∃ t,
    step (State.powerUp c (HostLine.rst :: rest)) = .next t ∧ t.regs = (State.resetOf c).regs)

/-- The invariant of Safety.lean holds of every instance at reset. -/
def Obligations.InvariantHoldsAtReset : Prop :=
  ∀ c : Config, (State.resetOf c).Inv

/-- 10_state.md R25, R32, 20_memory.md R50 and 42_packet_validator.md R155: every step keeps the invariant of
Safety.lean, among it that the ports stay what an instance can carry with the rows in canonical form, that
no symbol entry is NONE, that `id` is 0 whenever `status` is 0, and that EMIT shows what the
packet_validator says of `row_q`. -/
def Obligations.EveryStepKeepsTheInvariant : Prop :=
  ∀ s t : State, s.Inv → step s = .next t → t.Inv

/-- 20_memory.md R58 and 10_state.md R20: no operation writes the buffer, the configuration or the host's
lines; an operation that is not a command leaves the control ports alone; and no step changes the
configuration. -/
def Obligations.NoOperationWritesTheBuffer : Prop :=
  (∀ (i : Instr) (s t : State), exec i s = .next t →
    t.ports.buf = s.ports.buf ∧ t.cfg = s.cfg ∧ t.host = s.host ∧ t.cycle = s.cycle ∧
    ((encode i).1 ≠ .ctrl → t.ports = s.ports)) ∧
  (∀ s t : State, step s = .next t → t.cfg = s.cfg)

/-- 10_state.md R23 to R27: the frame of the combinational operations. Unless the core is in the state that
detects the row's rejection, no register changes; in that state only `state`, `res_status` and `res_id`
do. -/
def Obligations.CombinationalOperationsKeepRegisters : Prop :=
  ∀ (i : Instr) (s t : State), isClocked i = false → exec i s = .next t →
    t.regs.rowQ = s.regs.rowQ ∧ t.regs.symQ = s.regs.symQ ∧
    (t.regs = s.regs ∨
      (t.regs = { s.regs with state := .reject, resStatus := false, resId := 0#5 } ∧
        causeState t.nets.cause = some s.regs.state))

/-- 10_state.md R24 to R27: the frame of the STATE operations. `row_q` changes only in SELECT, `sym_q` only in
DECODE, `res_status` and `res_id` only on an edge that enters REJECT or EMIT. -/
def Obligations.StateOperationsWriteOnlyTheirRegisters : Prop :=
  ∀ s t : State, exec (stateInstr s.regs.state) s = .next t →
    (t.regs.rowQ ≠ s.regs.rowQ → s.regs.state = .select ∧ t.regs.state = .checkSync) ∧
    (t.regs.symQ ≠ s.regs.symQ → s.regs.state = .decode ∧ t.regs.state = .validateFixed) ∧
    ((t.regs.resStatus, t.regs.resId) ≠ (s.regs.resStatus, s.regs.resId) → t.regs.done = true)

/-! ### Whole-machine rules -/

/-- 10_state.md R26, R27 and 70_reset_and_hazards.md R237: `status` and `id` keep their values until a step
that enters REJECT or EMIT, or a reset. -/
def Obligations.ResultIsHeldUntilTheNextEnd : Prop :=
  ∀ s t : State, step s = .next t →
    (t.regs.status, t.regs.id) ≠ (s.regs.status, s.regs.id) →
    t.regs.done = true ∨ (t.ports.rst = true ∧ t.regs = Regs.reset)

/-- 60_exceptions.md R219 and 43_core_sequencer.md R176: nothing but `start` or `rst` makes the core leave
IDLE or changes a register in it. -/
def Obligations.IdleLeavesOnlyOnStart : Prop :=
  ∀ s t : State, s.regs.state = .idle → step s = .next t →
    t.regs = s.regs ∨ (t.ports.rst = true ∧ t.regs = Regs.reset) ∨
      (t.ports.rst = false ∧ t.ports.start = true ∧ t.regs = { s.regs with state := .select })

/-- 10_state.md R28: `done` lasts exactly one cycle, and the core is IDLE after it. -/
def Obligations.DoneLastsOneCycle : Prop :=
  ∀ (s : State) (c : BitVec 2) (rest : List HostLine),
    s.host = .cycle c :: rest → s.regs.done = true →
    ∃ t, step s = .next t ∧ t.regs.state = .idle ∧ t.regs.done = false ∧ t.regs.busy = false

/-- 20_memory.md R57 and R61: in a cycle in which the core is not in SELECT, the buffer on the ports has no
effect: with any other buffer the step gives the same state, that buffer apart. -/
def Obligations.BufferIsReadOnlyInSelect : Prop :=
  ∀ (s t : State) (b : Buffer) (c : BitVec 2) (rest : List HostLine),
    s.host = .cycle c :: rest → s.regs.state ≠ .select → step s = .next t →
    step { s with ports := { s.ports with buf := b } } =
      .next { t with ports := { t.ports with buf := b } }

/-- 10_state.md R20: nothing but the registers carries information across an edge. The signals that the model
keeps (log entry 5) never influence a register, a port, an output or a stop. -/
def Obligations.SignalsNeverInfluenceTheCore : Prop :=
  ∀ (s : State) (n : Nets), forgetNets (step { s with nets := n }) = forgetNets (step s)

/-- 43_core_sequencer.md R185 with 70_reset_and_hazards.md R241. Let a step from SELECT make the edge that ends
the SELECT cycle, and let `B` be the buffer on the ports in it. The core ends at the edge of `B`'s cause
(E1 to E5), and not before, with `(status, id) = Decode(B)`, in EMIT exactly when the status is 1, if
`rst` = 0 in the cycles up to there. The host is any host: directives may change the buffer after SELECT
(20_memory.md R61), and what it does after the terminal edge is left open. That edge is reached whenever
every line of the host can be driven. -/
def Obligations.SequencerComputesDecode : Prop :=
  ∀ s r : State, s.regs.state = .select → step s = .next r → r.cycle = s.cycle + 1 →
    let e := causeEdge (decodeCause s.cfg r.ports.buf)
    1 ≤ e ∧ e ≤ 5 ∧
    ((∀ l ∈ s.host, l.wellFormed s.cfg = true) →
      ∃ n ≤ s.host.length + e, ∃ t, core.run n s = .next t ∧ t.cycle = s.cycle + e) ∧
    ∀ (n : Nat) (t : State), core.run n s = .next t → rstLow n s = true →
      (t.cycle < s.cycle + e → t.regs.done = false) ∧
      (t.cycle = s.cycle + e →
        t.regs.done = true ∧ (t.regs.status, t.regs.id) = decodeBuffer s.cfg r.ports.buf ∧
        (t.regs.state = .emit ↔ (decodeBuffer s.cfg r.ports.buf).1 = true))

/-- 60_exceptions.md R210: the step that makes the terminal edge of a decode records the first cause found:
RJ_ROWCOUNT, RJ_NOLEN and RJ_NOREPEAT of the buffer on the ports in the SELECT cycle, then what the checks of
the selected row find; none on a match. The host is any host with `rst` = 0 up to that edge. That the
label stays readable after the edge is the model's form (log entry 6). -/
def Obligations.TheFirstCauseFoundIsRecorded : Prop :=
  ∀ s r : State, s.regs.state = .select → step s = .next r → r.cycle = s.cycle + 1 →
    ∀ (n : Nat) (v t : State), core.run n s = .next v → step v = .next t → rstLow (n + 1) s = true →
      v.cycle + 1 = s.cycle + causeEdge (decodeCause s.cfg r.ports.buf) → t.cycle = v.cycle + 1 →
      t.nets.cause = decodeCause s.cfg r.ports.buf ∧
        (t.nets.cause = .none ↔ t.regs.state = .emit)

/-- 43_core_sequencer.md R186 and R187: the result of a decode and the edge at which it ends depend only on
the buffer in the SELECT cycle: two cores of one configuration that see the same buffer there, whatever
their registers hold and whatever their hosts drive with `rst` = 0 up to the terminal edge, end alike. -/
def Obligations.DecodesAreIndependent : Prop :=
  ∀ s u r q : State, s.regs.state = .select → u.regs.state = .select → s.cfg = u.cfg →
    step s = .next r → r.cycle = s.cycle + 1 → step u = .next q → q.cycle = u.cycle + 1 →
    r.ports.buf = q.ports.buf →
    ∃ e : Nat, 1 ≤ e ∧ e ≤ 5 ∧
      ((∀ l ∈ s.host ++ u.host, l.wellFormed s.cfg = true) →
        ∃ (n m : Nat) (t v : State), core.run n s = .next t ∧ core.run m u = .next v ∧
          t.cycle = s.cycle + e ∧ v.cycle = u.cycle + e) ∧
      ∀ (n m : Nat) (t v : State), core.run n s = .next t → core.run m u = .next v →
        rstLow n s = true → rstLow m u = true →
        ∀ j ≤ e, t.cycle = s.cycle + j → v.cycle = u.cycle + j →
          (t.regs.done = true ↔ j = e) ∧ (v.regs.done = true ↔ j = e) ∧
          (j = e → t.regs.status = v.regs.status ∧ t.regs.id = v.regs.id)

/-- 30_encoding.md R85 with 43_core_sequencer.md R190 and 70_reset_and_hazards.md R241: a DECODE line in IDLE
takes one cycle for START and one more than the cause's edge for WAITDONE, and leaves the core in IDLE
with `Decode` of the buffer as its result. That the WAITDONE part ends with the cycle whose registers show
`done` = 1, so how many cycles it takes, is DEDUCED (log entry 13). -/
def Obligations.DecodeLineCompletes : Prop :=
  ∀ (s : State) (rest : List HostLine),
    s.regs.state = .idle → s.host = .decode :: rest →
    ∃ t, core.run (causeEdge (decodeCause s.cfg s.ports.buf) + 2) s = .next t ∧
      t.regs.state = .idle ∧ t.host = rest ∧ t.ports.buf = s.ports.buf ∧
      t.cycle = s.cycle + causeEdge (decodeCause s.cfg s.ports.buf) + 2 ∧
      (t.regs.status, t.regs.id) = decodeBuffer s.cfg s.ports.buf

/-- 70_reset_and_hazards.md R240: a reset in any cycle of a decode abandons it: the core is in IDLE with
`done`, `status` and `id` 0. -/
def Obligations.ResetAbandonsADecode : Prop :=
  ∀ (s : State) (b : BitVec 2) (rest : List HostLine),
    s.regs.busy = true → s.host = .cycle b :: rest → b.getLsbD 1 = true →
    ∃ t, step s = .next t ∧ t.regs.busy = false ∧ t.regs.done = false ∧
      t.regs.status = false ∧ t.regs.id = 0#5
end

