-- ==== Sys2Proof/Laws/Fields.lean ====
section
/-! SUPPORT. What the combinational functions say, in terms of single symbols. -/

namespace Sys2Proof.Machine

/-- A lane says that its pair is no symbol exactly for the pair 0b01 (41_symbol_decoder.md R124). -/
theorem lcsd_ok_iff (p : Pair) : (lcsd p).ok = true ↔ p ≠ 0b01#2 := by
  revert p; decide

theorem lcsd_sym_none_iff (p : Pair) : (lcsd p).sym = .none ↔ p = 0b01#2 := by
  revert p; decide

@[simp] theorem rowLanes_get (w : RowWord) (i : Nat) (h : i < 12) :
    (rowLanes w)[i] = lcsd (pairAt w ⟨i, h⟩) := by
  simp [rowLanes]

@[simp] theorem laneSyms_get (v : Vector Lane 12) (i : Nat) (h : i < 12) :
    (laneSyms v)[i] = v[i].sym := by
  simp [laneSyms]

/-- All lanes answer a symbol exactly when no pair is 0b01 (60_exceptions.md R206). -/
theorem allOk_rowLanes_iff (w : RowWord) :
    allOk (rowLanes w) = true ↔ ∀ i : Fin 12, pairAt w i ≠ 0b01#2 := by
  simp [allOk, List.all_eq_true, lcsd_ok_iff]

theorem anyFixFloating_iff (v : Vector Sym 12) :
    anyFixFloating v = true ↔ ∃ j : Fin 7, v[fixIndex j] = .floating := by
  simp [anyFixFloating, List.any_eq_true]

theorem anyIdHigh_iff (v : Vector Sym 12) :
    anyIdHigh v = true ↔ ∃ i : Fin 5, v[idIndex i] = .high := by
  simp [anyIdHigh, List.any_eq_true]

theorem fixDom_iff (v : Vector Sym 12) :
    fixDom v = true ↔ ∀ j : Fin 7, v[fixIndex j] = .low ∨ v[fixIndex j] = .high := by
  simp [fixDom, List.all_eq_true]

theorem idDom_iff (v : Vector Sym 12) :
    idDom v = true ↔ ∀ i : Fin 5, v[idIndex i] = .low ∨ v[idIndex i] = .floating := by
  simp [idDom, List.all_eq_true]

/-- Among symbols without NONE, "not FLOATING" is "LOW or HIGH" (43_core_sequencer.md R180). -/
theorem fixDom_eq_not_anyFixFloating {v : Vector Sym 12} (h : ∀ i : Fin 12, v[i] ≠ .none) :
    fixDom v = !anyFixFloating v := by
  rw [Bool.eq_iff_iff, fixDom_iff, Bool.not_eq_true', ← Bool.not_eq_true, anyFixFloating_iff,
    not_exists]
  refine forall_congr' fun j => ?_
  have := h (fixIndex j)
  generalize v[fixIndex j] = x at *
  cases x <;> simp_all

/-- Among symbols without NONE, "not HIGH" is "LOW or FLOATING" (43_core_sequencer.md R181). -/
theorem idDom_eq_not_anyIdHigh {v : Vector Sym 12} (h : ∀ i : Fin 12, v[i] ≠ .none) :
    idDom v = !anyIdHigh v := by
  rw [Bool.eq_iff_iff, idDom_iff, Bool.not_eq_true', ← Bool.not_eq_true, anyIdHigh_iff, not_exists]
  refine forall_congr' fun i => ?_
  have := h (idIndex i)
  generalize v[idIndex i] = x at *
  cases x <;> simp_all

/-- The symbols of a row whose lanes all answer a symbol hold no NONE (10_state.md R25). -/
theorem laneSyms_ne_none {w : RowWord} (h : allOk (rowLanes w) = true) (i : Fin 12) :
    (laneSyms (rowLanes w))[i] ≠ .none := by
  simpa [lcsd_sym_none_iff] using (allOk_rowLanes_iff w).1 h i

theorem idBit_of_mem {v : Vector Sym 12} {i : Fin 12} (h : v[i] = .low ∨ v[i] = .floating) :
    idBit v i = (v[i] == .low) := by
  unfold idBit; rcases h with h | h <;> simp [h]

theorem fixBit_of_mem {v : Vector Sym 12} {i : Fin 12} (h : v[i] = .low ∨ v[i] = .high) :
    fixBit v i = (v[i] == .high) := by
  unfold fixBit; rcases h with h | h <;> simp [h]

/-- A slot that is a candidate is present. -/
theorem cand_lt {c : Config} {b : Buffer} {k : Nat} (h : cand c b k = true) :
    k < effCount c b ∧ b.len k = 25 := by
  simpa [cand] using h

theorem hit_cand {c : Config} {b : Buffer} {k : Nat} (h : hit c b k = true) : cand c b k = true := by
  simp only [hit, Bool.and_eq_true] at h
  exact h.1.2

end Sys2Proof.Machine
end

