-- ==== Sys2Proof/Laws/Memory.lean ====
section
/-! SUPPORT. The laws of the buffer's rows: a slot reads what was written to it, every other slot reads
as before, and every operation keeps the canonical form. -/

namespace Sys2Proof.Machine

/-- A slot below every listed slot is unlisted. -/
theorem Memory.read_of_forall_lt (m : Memory) (k : Nat) (h : ∀ e ∈ m, k < e.1) :
    m.read k = Row.blank := by
  induction m with
  | nil => rfl
  | cons e m ih =>
    have hk : e.1 ≠ k := Nat.ne_of_gt (h e (by simp))
    simp only [Memory.read, hk, if_false]
    exact ih fun x hx => h x (by simp [hx])

/-- In canonical form the first slot lies below the others, and the others are in canonical form. -/
theorem Memory.wf_cons {e : Nat × Row} {m : Memory} :
    Memory.wf (e :: m) ↔ (∀ x ∈ m, e.1 < x.1) ∧ e.2 ≠ Row.blank ∧ Memory.wf m := by
  simp only [Memory.wf, List.map_cons, List.pairwise_cons, List.mem_map, List.forall_mem_cons,
    forall_exists_index, and_imp, forall_apply_eq_imp_iff₂]
  tauto

/-- What a write can list: the slot written, or a slot listed before. -/
theorem Memory.mem_write {m : Memory} {k : Nat} {r : Row} {e : Nat × Row}
    (h : e ∈ m.write k r) : e = (k, r) ∨ e ∈ m := by
  induction m with
  | nil =>
    simp only [Memory.write] at h
    split at h <;> simp_all
  | cons x m ih =>
    simp only [Memory.write] at h
    split at h
    · split at h <;> simp_all
    · split at h
      · split at h <;> simp_all
        tauto
      · rcases List.mem_cons.1 h with h | h
        · simp [h]
        · rcases ih h with h | h <;> simp [h]

theorem Memory.write_wf {m : Memory} (k : Nat) (r : Row) (h : Memory.wf m) :
    Memory.wf (m.write k r) := by
  induction m with
  | nil =>
    simp only [Memory.write]
    split <;> simp_all [Memory.wf]
  | cons x m ih =>
    obtain ⟨hlt, hx, hm⟩ := Memory.wf_cons.1 h
    simp only [Memory.write]
    split
    · rename_i hk
      split
      · exact h
      · rename_i hr
        refine Memory.wf_cons.2 ⟨?_, hr, h⟩
        intro y hy
        rcases List.mem_cons.1 hy with rfl | hy
        · exact hk
        · exact hk.trans (hlt y hy)
    · split
      · rename_i hk hkx
        split
        · exact hm
        · rename_i hr
          exact Memory.wf_cons.2 ⟨fun y hy => by simpa [hkx] using hlt y hy, hr, hm⟩
      · rename_i hk hkx
        refine Memory.wf_cons.2 ⟨?_, hx, ih hm⟩
        intro y hy
        rcases Memory.mem_write hy with rfl | hy
        · simp only; omega
        · exact hlt y hy

theorem Memory.read_write_same {m : Memory} (k : Nat) (r : Row) (h : Memory.wf m) :
    (m.write k r).read k = r := by
  induction m with
  | nil =>
    simp only [Memory.write]
    split <;> simp_all [Memory.read]
  | cons x m ih =>
    obtain ⟨hlt, hx, hm⟩ := Memory.wf_cons.1 h
    simp only [Memory.write]
    split
    · rename_i hk
      split
      · rename_i hr
        subst hr
        refine Memory.read_of_forall_lt _ _ fun y hy => ?_
        rcases List.mem_cons.1 hy with rfl | hy
        · exact hk
        · exact hk.trans (hlt y hy)
      · simp [Memory.read]
    · split
      · rename_i hk hkx
        split
        · rename_i hr
          subst hr
          exact Memory.read_of_forall_lt _ _ fun y hy => by simpa [hkx] using hlt y hy
        · simp [Memory.read]
      · rename_i hk hkx
        have : x.1 ≠ k := fun he => hkx he.symm
        simp [Memory.read, this, ih hm]

theorem Memory.read_write_other {m : Memory} {j k : Nat} (r : Row) (hjk : j ≠ k) :
    (m.write k r).read j = m.read j := by
  induction m with
  | nil =>
    simp only [Memory.write]
    split
    · rfl
    · simp [Memory.read, Ne.symm hjk]
  | cons x m ih =>
    simp only [Memory.write]
    split
    · split
      · rfl
      · simp [Memory.read, Ne.symm hjk]
    · split
      · rename_i hk hkx
        have hx : x.1 ≠ j := fun he => hjk (he ▸ hkx.symm)
        split <;> simp [Memory.read, hx, Ne.symm hjk]
      · simp [Memory.read, ih]

theorem Memory.ofEntries_wf (es : List SlotEntry) : Memory.wf (Memory.ofEntries es) := by
  induction es with
  | nil => simp [Memory.ofEntries, Memory.wf]
  | cons e es ih => exact Memory.write_wf _ _ ih

/-- Every row that a directive's rows list stands among its entries. -/
theorem Memory.mem_ofEntries {es : List SlotEntry} {x : Nat × Row}
    (h : x ∈ Memory.ofEntries es) : ∃ e ∈ es, x = (e.slot, { len := e.len, word := e.word }) := by
  induction es with
  | nil => simp [Memory.ofEntries] at h
  | cons e es ih =>
    rcases Memory.mem_write h with rfl | h
    · exact ⟨e, by simp⟩
    · obtain ⟨y, hy, rfl⟩ := ih h
      exact ⟨y, by simp [hy]⟩

/-- An unlisted slot reads as blank (30_encoding.md R84). -/
theorem Memory.read_ofEntries_unlisted {es : List SlotEntry} {k : Nat}
    (h : ∀ e ∈ es, e.slot ≠ k) : (Memory.ofEntries es).read k = Row.blank := by
  induction es with
  | nil => rfl
  | cons e es ih =>
    have hk : k ≠ e.slot := fun he => h e (by simp) he.symm
    rw [Memory.ofEntries, Memory.read_write_other _ hk]
    exact ih fun x hx => h x (by simp [hx])

/-- A slot that the entries list once reads what they list (30_encoding.md R84). -/
theorem Memory.read_ofEntries_listed {es : List SlotEntry} (hd : (es.map (·.slot)).Nodup)
    {e : SlotEntry} (he : e ∈ es) :
    (Memory.ofEntries es).read e.slot = { len := e.len, word := e.word } := by
  induction es with
  | nil => simp at he
  | cons x es ih =>
    rw [List.map_cons, List.nodup_cons] at hd
    rcases List.mem_cons.1 he with rfl | he
    · exact Memory.read_write_same _ _ (Memory.ofEntries_wf _)
    · have hx : e.slot ≠ x.slot := fun h => hd.1 (h ▸ List.mem_map_of_mem he)
      rw [Memory.ofEntries, Memory.read_write_other _ hx]
      exact ih hd.2 he

theorem State.reset_rows_wf : Memory.wf State.reset.ports.buf.rows := by decide

/-- A directive whose checks pass gives a buffer that the ports can carry. -/
theorem bufferOfLine_wf {c : Config} {b : BufLine} (h : b.wellFormed c = true) :
    Buffer.wf c (bufferOfLine b) := by
  simp only [BufLine.wellFormed, Bool.and_eq_true, BufLine.slotsExist, BufLine.countFits,
    BufLine.lensFit, List.all_eq_true, decide_eq_true_eq] at h
  refine ⟨h.1.1.2, Memory.ofEntries_wf _, fun x hx => ?_⟩
  obtain ⟨e, he, rfl⟩ := Memory.mem_ofEntries hx
  exact ⟨h.1.1.1 e he, h.1.2 e he⟩

/-- Whatever a host without lines drives fits the ports. -/
theorem freeBuffer_wf (c : Config) (n : Nat) : Buffer.wf c (freeBuffer c n) := by
  refine ⟨Nat.mod_lt _ (by positivity), Memory.ofEntries_wf _, fun x hx => ?_⟩
  obtain ⟨e, he, rfl⟩ := Memory.mem_ofEntries hx
  obtain ⟨k, hk, rfl⟩ := List.mem_map.1 he
  exact ⟨List.mem_range.1 hk, Nat.mod_lt _ (by positivity)⟩

end Sys2Proof.Machine
end

