-- ==== Sys2Proof/Laws/State.lean ====
section
/-! SUPPORT. One lemma per field per update of the state, true by definition. -/

namespace Sys2Proof.Machine

/-! ### `goto` -/

@[simp] theorem State.goto_cfg (st : SeqState) (s : State) : (s.goto st).cfg = s.cfg := rfl
@[simp] theorem State.goto_ports (st : SeqState) (s : State) : (s.goto st).ports = s.ports := rfl
@[simp] theorem State.goto_nets (st : SeqState) (s : State) : (s.goto st).nets = s.nets := rfl
@[simp] theorem State.goto_host (st : SeqState) (s : State) : (s.goto st).host = s.host := rfl
@[simp] theorem State.goto_cycle (st : SeqState) (s : State) : (s.goto st).cycle = s.cycle := rfl
@[simp] theorem State.goto_regs_state (st : SeqState) (s : State) :
    (s.goto st).regs.state = st := rfl
@[simp] theorem State.goto_regs_rowQ (st : SeqState) (s : State) :
    (s.goto st).regs.rowQ = s.regs.rowQ := rfl
@[simp] theorem State.goto_regs_symQ (st : SeqState) (s : State) :
    (s.goto st).regs.symQ = s.regs.symQ := rfl
@[simp] theorem State.goto_regs_resStatus (st : SeqState) (s : State) :
    (s.goto st).regs.resStatus = s.regs.resStatus := rfl
@[simp] theorem State.goto_regs_resId (st : SeqState) (s : State) :
    (s.goto st).regs.resId = s.regs.resId := rfl

/-! ### `setRow` -/

@[simp] theorem State.setRow_cfg (w : RowWord) (s : State) : (s.setRow w).cfg = s.cfg := rfl
@[simp] theorem State.setRow_ports (w : RowWord) (s : State) : (s.setRow w).ports = s.ports := rfl
@[simp] theorem State.setRow_nets (w : RowWord) (s : State) : (s.setRow w).nets = s.nets := rfl
@[simp] theorem State.setRow_host (w : RowWord) (s : State) : (s.setRow w).host = s.host := rfl
@[simp] theorem State.setRow_cycle (w : RowWord) (s : State) : (s.setRow w).cycle = s.cycle := rfl
@[simp] theorem State.setRow_regs_state (w : RowWord) (s : State) :
    (s.setRow w).regs.state = s.regs.state := rfl
@[simp] theorem State.setRow_regs_rowQ (w : RowWord) (s : State) : (s.setRow w).regs.rowQ = w := rfl
@[simp] theorem State.setRow_regs_symQ (w : RowWord) (s : State) :
    (s.setRow w).regs.symQ = s.regs.symQ := rfl
@[simp] theorem State.setRow_regs_resStatus (w : RowWord) (s : State) :
    (s.setRow w).regs.resStatus = s.regs.resStatus := rfl
@[simp] theorem State.setRow_regs_resId (w : RowWord) (s : State) :
    (s.setRow w).regs.resId = s.regs.resId := rfl

/-! ### `setSyms` -/

@[simp] theorem State.setSyms_cfg (v : Vector Sym 12) (s : State) : (s.setSyms v).cfg = s.cfg := rfl
@[simp] theorem State.setSyms_ports (v : Vector Sym 12) (s : State) :
    (s.setSyms v).ports = s.ports := rfl
@[simp] theorem State.setSyms_nets (v : Vector Sym 12) (s : State) :
    (s.setSyms v).nets = s.nets := rfl
@[simp] theorem State.setSyms_host (v : Vector Sym 12) (s : State) :
    (s.setSyms v).host = s.host := rfl
@[simp] theorem State.setSyms_cycle (v : Vector Sym 12) (s : State) :
    (s.setSyms v).cycle = s.cycle := rfl
@[simp] theorem State.setSyms_regs_state (v : Vector Sym 12) (s : State) :
    (s.setSyms v).regs.state = s.regs.state := rfl
@[simp] theorem State.setSyms_regs_rowQ (v : Vector Sym 12) (s : State) :
    (s.setSyms v).regs.rowQ = s.regs.rowQ := rfl
@[simp] theorem State.setSyms_regs_symQ (v : Vector Sym 12) (s : State) :
    (s.setSyms v).regs.symQ = v := rfl
@[simp] theorem State.setSyms_regs_resStatus (v : Vector Sym 12) (s : State) :
    (s.setSyms v).regs.resStatus = s.regs.resStatus := rfl
@[simp] theorem State.setSyms_regs_resId (v : Vector Sym 12) (s : State) :
    (s.setSyms v).regs.resId = s.regs.resId := rfl

/-! ### `setResult` -/

@[simp] theorem State.setResult_cfg (ok : Bool) (id : Ident) (s : State) :
    (s.setResult ok id).cfg = s.cfg := rfl
@[simp] theorem State.setResult_ports (ok : Bool) (id : Ident) (s : State) :
    (s.setResult ok id).ports = s.ports := rfl
@[simp] theorem State.setResult_nets (ok : Bool) (id : Ident) (s : State) :
    (s.setResult ok id).nets = s.nets := rfl
@[simp] theorem State.setResult_host (ok : Bool) (id : Ident) (s : State) :
    (s.setResult ok id).host = s.host := rfl
@[simp] theorem State.setResult_cycle (ok : Bool) (id : Ident) (s : State) :
    (s.setResult ok id).cycle = s.cycle := rfl
@[simp] theorem State.setResult_regs_state (ok : Bool) (id : Ident) (s : State) :
    (s.setResult ok id).regs.state = s.regs.state := rfl
@[simp] theorem State.setResult_regs_rowQ (ok : Bool) (id : Ident) (s : State) :
    (s.setResult ok id).regs.rowQ = s.regs.rowQ := rfl
@[simp] theorem State.setResult_regs_symQ (ok : Bool) (id : Ident) (s : State) :
    (s.setResult ok id).regs.symQ = s.regs.symQ := rfl
@[simp] theorem State.setResult_regs_resStatus (ok : Bool) (id : Ident) (s : State) :
    (s.setResult ok id).regs.resStatus = ok := rfl
@[simp] theorem State.setResult_regs_resId (ok : Bool) (id : Ident) (s : State) :
    (s.setResult ok id).regs.resId = id := rfl

/-! ### `setLane` -/

@[simp] theorem State.setLane_cfg (i : Fin 12) (l : Lane) (s : State) :
    (s.setLane i l).cfg = s.cfg := rfl
@[simp] theorem State.setLane_regs (i : Fin 12) (l : Lane) (s : State) :
    (s.setLane i l).regs = s.regs := rfl
@[simp] theorem State.setLane_ports (i : Fin 12) (l : Lane) (s : State) :
    (s.setLane i l).ports = s.ports := rfl
@[simp] theorem State.setLane_host (i : Fin 12) (l : Lane) (s : State) :
    (s.setLane i l).host = s.host := rfl
@[simp] theorem State.setLane_cycle (i : Fin 12) (l : Lane) (s : State) :
    (s.setLane i l).cycle = s.cycle := rfl
@[simp] theorem State.setLane_nets_lanes (i : Fin 12) (l : Lane) (s : State) :
    (s.setLane i l).nets.lanes = s.nets.lanes.set i l := rfl
@[simp] theorem State.setLane_nets_syncOk (i : Fin 12) (l : Lane) (s : State) :
    (s.setLane i l).nets.syncOk = s.nets.syncOk := rfl
@[simp] theorem State.setLane_nets_idBits (i : Fin 12) (l : Lane) (s : State) :
    (s.setLane i l).nets.idBits = s.nets.idBits := rfl
@[simp] theorem State.setLane_nets_fixBits (i : Fin 12) (l : Lane) (s : State) :
    (s.setLane i l).nets.fixBits = s.nets.fixBits := rfl
@[simp] theorem State.setLane_nets_pvOk (i : Fin 12) (l : Lane) (s : State) :
    (s.setLane i l).nets.pvOk = s.nets.pvOk := rfl
@[simp] theorem State.setLane_nets_pvId (i : Fin 12) (l : Lane) (s : State) :
    (s.setLane i l).nets.pvId = s.nets.pvId := rfl
@[simp] theorem State.setLane_nets_found (i : Fin 12) (l : Lane) (s : State) :
    (s.setLane i l).nets.found = s.nets.found := rfl
@[simp] theorem State.setLane_nets_index (i : Fin 12) (l : Lane) (s : State) :
    (s.setLane i l).nets.index = s.nets.index := rfl
@[simp] theorem State.setLane_nets_cause (i : Fin 12) (l : Lane) (s : State) :
    (s.setLane i l).nets.cause = s.nets.cause := rfl

/-! ### `setLanes` -/

@[simp] theorem State.setLanes_cfg (v : Vector Lane 12) (s : State) :
    (s.setLanes v).cfg = s.cfg := rfl
@[simp] theorem State.setLanes_regs (v : Vector Lane 12) (s : State) :
    (s.setLanes v).regs = s.regs := rfl
@[simp] theorem State.setLanes_ports (v : Vector Lane 12) (s : State) :
    (s.setLanes v).ports = s.ports := rfl
@[simp] theorem State.setLanes_host (v : Vector Lane 12) (s : State) :
    (s.setLanes v).host = s.host := rfl
@[simp] theorem State.setLanes_cycle (v : Vector Lane 12) (s : State) :
    (s.setLanes v).cycle = s.cycle := rfl
@[simp] theorem State.setLanes_nets_lanes (v : Vector Lane 12) (s : State) :
    (s.setLanes v).nets.lanes = v := rfl
@[simp] theorem State.setLanes_nets_syncOk (v : Vector Lane 12) (s : State) :
    (s.setLanes v).nets.syncOk = s.nets.syncOk := rfl
@[simp] theorem State.setLanes_nets_idBits (v : Vector Lane 12) (s : State) :
    (s.setLanes v).nets.idBits = s.nets.idBits := rfl
@[simp] theorem State.setLanes_nets_fixBits (v : Vector Lane 12) (s : State) :
    (s.setLanes v).nets.fixBits = s.nets.fixBits := rfl
@[simp] theorem State.setLanes_nets_pvOk (v : Vector Lane 12) (s : State) :
    (s.setLanes v).nets.pvOk = s.nets.pvOk := rfl
@[simp] theorem State.setLanes_nets_pvId (v : Vector Lane 12) (s : State) :
    (s.setLanes v).nets.pvId = s.nets.pvId := rfl
@[simp] theorem State.setLanes_nets_found (v : Vector Lane 12) (s : State) :
    (s.setLanes v).nets.found = s.nets.found := rfl
@[simp] theorem State.setLanes_nets_index (v : Vector Lane 12) (s : State) :
    (s.setLanes v).nets.index = s.nets.index := rfl
@[simp] theorem State.setLanes_nets_cause (v : Vector Lane 12) (s : State) :
    (s.setLanes v).nets.cause = s.nets.cause := rfl

/-! ### `setSync` -/

@[simp] theorem State.setSync_cfg (ok : Bool) (s : State) : (s.setSync ok).cfg = s.cfg := rfl
@[simp] theorem State.setSync_regs (ok : Bool) (s : State) : (s.setSync ok).regs = s.regs := rfl
@[simp] theorem State.setSync_ports (ok : Bool) (s : State) : (s.setSync ok).ports = s.ports := rfl
@[simp] theorem State.setSync_host (ok : Bool) (s : State) : (s.setSync ok).host = s.host := rfl
@[simp] theorem State.setSync_cycle (ok : Bool) (s : State) : (s.setSync ok).cycle = s.cycle := rfl
@[simp] theorem State.setSync_nets_lanes (ok : Bool) (s : State) :
    (s.setSync ok).nets.lanes = s.nets.lanes := rfl
@[simp] theorem State.setSync_nets_syncOk (ok : Bool) (s : State) :
    (s.setSync ok).nets.syncOk = ok := rfl
@[simp] theorem State.setSync_nets_idBits (ok : Bool) (s : State) :
    (s.setSync ok).nets.idBits = s.nets.idBits := rfl
@[simp] theorem State.setSync_nets_fixBits (ok : Bool) (s : State) :
    (s.setSync ok).nets.fixBits = s.nets.fixBits := rfl
@[simp] theorem State.setSync_nets_pvOk (ok : Bool) (s : State) :
    (s.setSync ok).nets.pvOk = s.nets.pvOk := rfl
@[simp] theorem State.setSync_nets_pvId (ok : Bool) (s : State) :
    (s.setSync ok).nets.pvId = s.nets.pvId := rfl
@[simp] theorem State.setSync_nets_found (ok : Bool) (s : State) :
    (s.setSync ok).nets.found = s.nets.found := rfl
@[simp] theorem State.setSync_nets_index (ok : Bool) (s : State) :
    (s.setSync ok).nets.index = s.nets.index := rfl
@[simp] theorem State.setSync_nets_cause (ok : Bool) (s : State) :
    (s.setSync ok).nets.cause = s.nets.cause := rfl

/-! ### `setIdBit` -/

@[simp] theorem State.setIdBit_cfg (i : Fin 5) (b : Bool) (s : State) :
    (s.setIdBit i b).cfg = s.cfg := rfl
@[simp] theorem State.setIdBit_regs (i : Fin 5) (b : Bool) (s : State) :
    (s.setIdBit i b).regs = s.regs := rfl
@[simp] theorem State.setIdBit_ports (i : Fin 5) (b : Bool) (s : State) :
    (s.setIdBit i b).ports = s.ports := rfl
@[simp] theorem State.setIdBit_host (i : Fin 5) (b : Bool) (s : State) :
    (s.setIdBit i b).host = s.host := rfl
@[simp] theorem State.setIdBit_cycle (i : Fin 5) (b : Bool) (s : State) :
    (s.setIdBit i b).cycle = s.cycle := rfl
@[simp] theorem State.setIdBit_nets_lanes (i : Fin 5) (b : Bool) (s : State) :
    (s.setIdBit i b).nets.lanes = s.nets.lanes := rfl
@[simp] theorem State.setIdBit_nets_syncOk (i : Fin 5) (b : Bool) (s : State) :
    (s.setIdBit i b).nets.syncOk = s.nets.syncOk := rfl
@[simp] theorem State.setIdBit_nets_idBits (i : Fin 5) (b : Bool) (s : State) :
    (s.setIdBit i b).nets.idBits = s.nets.idBits.set i b := rfl
@[simp] theorem State.setIdBit_nets_fixBits (i : Fin 5) (b : Bool) (s : State) :
    (s.setIdBit i b).nets.fixBits = s.nets.fixBits := rfl
@[simp] theorem State.setIdBit_nets_pvOk (i : Fin 5) (b : Bool) (s : State) :
    (s.setIdBit i b).nets.pvOk = s.nets.pvOk := rfl
@[simp] theorem State.setIdBit_nets_pvId (i : Fin 5) (b : Bool) (s : State) :
    (s.setIdBit i b).nets.pvId = s.nets.pvId := rfl
@[simp] theorem State.setIdBit_nets_found (i : Fin 5) (b : Bool) (s : State) :
    (s.setIdBit i b).nets.found = s.nets.found := rfl
@[simp] theorem State.setIdBit_nets_index (i : Fin 5) (b : Bool) (s : State) :
    (s.setIdBit i b).nets.index = s.nets.index := rfl
@[simp] theorem State.setIdBit_nets_cause (i : Fin 5) (b : Bool) (s : State) :
    (s.setIdBit i b).nets.cause = s.nets.cause := rfl

/-! ### `setIdBits` -/

@[simp] theorem State.setIdBits_cfg (v : Vector Bool 5) (s : State) :
    (s.setIdBits v).cfg = s.cfg := rfl
@[simp] theorem State.setIdBits_regs (v : Vector Bool 5) (s : State) :
    (s.setIdBits v).regs = s.regs := rfl
@[simp] theorem State.setIdBits_ports (v : Vector Bool 5) (s : State) :
    (s.setIdBits v).ports = s.ports := rfl
@[simp] theorem State.setIdBits_host (v : Vector Bool 5) (s : State) :
    (s.setIdBits v).host = s.host := rfl
@[simp] theorem State.setIdBits_cycle (v : Vector Bool 5) (s : State) :
    (s.setIdBits v).cycle = s.cycle := rfl
@[simp] theorem State.setIdBits_nets_lanes (v : Vector Bool 5) (s : State) :
    (s.setIdBits v).nets.lanes = s.nets.lanes := rfl
@[simp] theorem State.setIdBits_nets_syncOk (v : Vector Bool 5) (s : State) :
    (s.setIdBits v).nets.syncOk = s.nets.syncOk := rfl
@[simp] theorem State.setIdBits_nets_idBits (v : Vector Bool 5) (s : State) :
    (s.setIdBits v).nets.idBits = v := rfl
@[simp] theorem State.setIdBits_nets_fixBits (v : Vector Bool 5) (s : State) :
    (s.setIdBits v).nets.fixBits = s.nets.fixBits := rfl
@[simp] theorem State.setIdBits_nets_pvOk (v : Vector Bool 5) (s : State) :
    (s.setIdBits v).nets.pvOk = s.nets.pvOk := rfl
@[simp] theorem State.setIdBits_nets_pvId (v : Vector Bool 5) (s : State) :
    (s.setIdBits v).nets.pvId = s.nets.pvId := rfl
@[simp] theorem State.setIdBits_nets_found (v : Vector Bool 5) (s : State) :
    (s.setIdBits v).nets.found = s.nets.found := rfl
@[simp] theorem State.setIdBits_nets_index (v : Vector Bool 5) (s : State) :
    (s.setIdBits v).nets.index = s.nets.index := rfl
@[simp] theorem State.setIdBits_nets_cause (v : Vector Bool 5) (s : State) :
    (s.setIdBits v).nets.cause = s.nets.cause := rfl

/-! ### `setFixBit` -/

@[simp] theorem State.setFixBit_cfg (j : Fin 7) (b : Bool) (s : State) :
    (s.setFixBit j b).cfg = s.cfg := rfl
@[simp] theorem State.setFixBit_regs (j : Fin 7) (b : Bool) (s : State) :
    (s.setFixBit j b).regs = s.regs := rfl
@[simp] theorem State.setFixBit_ports (j : Fin 7) (b : Bool) (s : State) :
    (s.setFixBit j b).ports = s.ports := rfl
@[simp] theorem State.setFixBit_host (j : Fin 7) (b : Bool) (s : State) :
    (s.setFixBit j b).host = s.host := rfl
@[simp] theorem State.setFixBit_cycle (j : Fin 7) (b : Bool) (s : State) :
    (s.setFixBit j b).cycle = s.cycle := rfl
@[simp] theorem State.setFixBit_nets_lanes (j : Fin 7) (b : Bool) (s : State) :
    (s.setFixBit j b).nets.lanes = s.nets.lanes := rfl
@[simp] theorem State.setFixBit_nets_syncOk (j : Fin 7) (b : Bool) (s : State) :
    (s.setFixBit j b).nets.syncOk = s.nets.syncOk := rfl
@[simp] theorem State.setFixBit_nets_idBits (j : Fin 7) (b : Bool) (s : State) :
    (s.setFixBit j b).nets.idBits = s.nets.idBits := rfl
@[simp] theorem State.setFixBit_nets_fixBits (j : Fin 7) (b : Bool) (s : State) :
    (s.setFixBit j b).nets.fixBits = s.nets.fixBits.set j b := rfl
@[simp] theorem State.setFixBit_nets_pvOk (j : Fin 7) (b : Bool) (s : State) :
    (s.setFixBit j b).nets.pvOk = s.nets.pvOk := rfl
@[simp] theorem State.setFixBit_nets_pvId (j : Fin 7) (b : Bool) (s : State) :
    (s.setFixBit j b).nets.pvId = s.nets.pvId := rfl
@[simp] theorem State.setFixBit_nets_found (j : Fin 7) (b : Bool) (s : State) :
    (s.setFixBit j b).nets.found = s.nets.found := rfl
@[simp] theorem State.setFixBit_nets_index (j : Fin 7) (b : Bool) (s : State) :
    (s.setFixBit j b).nets.index = s.nets.index := rfl
@[simp] theorem State.setFixBit_nets_cause (j : Fin 7) (b : Bool) (s : State) :
    (s.setFixBit j b).nets.cause = s.nets.cause := rfl

/-! ### `setFixBits` -/

@[simp] theorem State.setFixBits_cfg (v : Vector Bool 7) (s : State) :
    (s.setFixBits v).cfg = s.cfg := rfl
@[simp] theorem State.setFixBits_regs (v : Vector Bool 7) (s : State) :
    (s.setFixBits v).regs = s.regs := rfl
@[simp] theorem State.setFixBits_ports (v : Vector Bool 7) (s : State) :
    (s.setFixBits v).ports = s.ports := rfl
@[simp] theorem State.setFixBits_host (v : Vector Bool 7) (s : State) :
    (s.setFixBits v).host = s.host := rfl
@[simp] theorem State.setFixBits_cycle (v : Vector Bool 7) (s : State) :
    (s.setFixBits v).cycle = s.cycle := rfl
@[simp] theorem State.setFixBits_nets_lanes (v : Vector Bool 7) (s : State) :
    (s.setFixBits v).nets.lanes = s.nets.lanes := rfl
@[simp] theorem State.setFixBits_nets_syncOk (v : Vector Bool 7) (s : State) :
    (s.setFixBits v).nets.syncOk = s.nets.syncOk := rfl
@[simp] theorem State.setFixBits_nets_idBits (v : Vector Bool 7) (s : State) :
    (s.setFixBits v).nets.idBits = s.nets.idBits := rfl
@[simp] theorem State.setFixBits_nets_fixBits (v : Vector Bool 7) (s : State) :
    (s.setFixBits v).nets.fixBits = v := rfl
@[simp] theorem State.setFixBits_nets_pvOk (v : Vector Bool 7) (s : State) :
    (s.setFixBits v).nets.pvOk = s.nets.pvOk := rfl
@[simp] theorem State.setFixBits_nets_pvId (v : Vector Bool 7) (s : State) :
    (s.setFixBits v).nets.pvId = s.nets.pvId := rfl
@[simp] theorem State.setFixBits_nets_found (v : Vector Bool 7) (s : State) :
    (s.setFixBits v).nets.found = s.nets.found := rfl
@[simp] theorem State.setFixBits_nets_index (v : Vector Bool 7) (s : State) :
    (s.setFixBits v).nets.index = s.nets.index := rfl
@[simp] theorem State.setFixBits_nets_cause (v : Vector Bool 7) (s : State) :
    (s.setFixBits v).nets.cause = s.nets.cause := rfl

/-! ### `setPv` -/

@[simp] theorem State.setPv_cfg (r : Bool × Ident) (s : State) : (s.setPv r).cfg = s.cfg := rfl
@[simp] theorem State.setPv_regs (r : Bool × Ident) (s : State) : (s.setPv r).regs = s.regs := rfl
@[simp] theorem State.setPv_ports (r : Bool × Ident) (s : State) :
    (s.setPv r).ports = s.ports := rfl
@[simp] theorem State.setPv_host (r : Bool × Ident) (s : State) : (s.setPv r).host = s.host := rfl
@[simp] theorem State.setPv_cycle (r : Bool × Ident) (s : State) :
    (s.setPv r).cycle = s.cycle := rfl
@[simp] theorem State.setPv_nets_lanes (r : Bool × Ident) (s : State) :
    (s.setPv r).nets.lanes = s.nets.lanes := rfl
@[simp] theorem State.setPv_nets_syncOk (r : Bool × Ident) (s : State) :
    (s.setPv r).nets.syncOk = s.nets.syncOk := rfl
@[simp] theorem State.setPv_nets_idBits (r : Bool × Ident) (s : State) :
    (s.setPv r).nets.idBits = s.nets.idBits := rfl
@[simp] theorem State.setPv_nets_fixBits (r : Bool × Ident) (s : State) :
    (s.setPv r).nets.fixBits = s.nets.fixBits := rfl
@[simp] theorem State.setPv_nets_pvOk (r : Bool × Ident) (s : State) :
    (s.setPv r).nets.pvOk = r.1 := rfl
@[simp] theorem State.setPv_nets_pvId (r : Bool × Ident) (s : State) :
    (s.setPv r).nets.pvId = r.2 := rfl
@[simp] theorem State.setPv_nets_found (r : Bool × Ident) (s : State) :
    (s.setPv r).nets.found = s.nets.found := rfl
@[simp] theorem State.setPv_nets_index (r : Bool × Ident) (s : State) :
    (s.setPv r).nets.index = s.nets.index := rfl
@[simp] theorem State.setPv_nets_cause (r : Bool × Ident) (s : State) :
    (s.setPv r).nets.cause = s.nets.cause := rfl

/-! ### `setMatch` -/

@[simp] theorem State.setMatch_cfg (r : Bool × Nat) (s : State) : (s.setMatch r).cfg = s.cfg := rfl
@[simp] theorem State.setMatch_regs (r : Bool × Nat) (s : State) :
    (s.setMatch r).regs = s.regs := rfl
@[simp] theorem State.setMatch_ports (r : Bool × Nat) (s : State) :
    (s.setMatch r).ports = s.ports := rfl
@[simp] theorem State.setMatch_host (r : Bool × Nat) (s : State) :
    (s.setMatch r).host = s.host := rfl
@[simp] theorem State.setMatch_cycle (r : Bool × Nat) (s : State) :
    (s.setMatch r).cycle = s.cycle := rfl
@[simp] theorem State.setMatch_nets_lanes (r : Bool × Nat) (s : State) :
    (s.setMatch r).nets.lanes = s.nets.lanes := rfl
@[simp] theorem State.setMatch_nets_syncOk (r : Bool × Nat) (s : State) :
    (s.setMatch r).nets.syncOk = s.nets.syncOk := rfl
@[simp] theorem State.setMatch_nets_idBits (r : Bool × Nat) (s : State) :
    (s.setMatch r).nets.idBits = s.nets.idBits := rfl
@[simp] theorem State.setMatch_nets_fixBits (r : Bool × Nat) (s : State) :
    (s.setMatch r).nets.fixBits = s.nets.fixBits := rfl
@[simp] theorem State.setMatch_nets_pvOk (r : Bool × Nat) (s : State) :
    (s.setMatch r).nets.pvOk = s.nets.pvOk := rfl
@[simp] theorem State.setMatch_nets_pvId (r : Bool × Nat) (s : State) :
    (s.setMatch r).nets.pvId = s.nets.pvId := rfl
@[simp] theorem State.setMatch_nets_found (r : Bool × Nat) (s : State) :
    (s.setMatch r).nets.found = r.1 := rfl
@[simp] theorem State.setMatch_nets_index (r : Bool × Nat) (s : State) :
    (s.setMatch r).nets.index = r.2 := rfl
@[simp] theorem State.setMatch_nets_cause (r : Bool × Nat) (s : State) :
    (s.setMatch r).nets.cause = s.nets.cause := rfl

/-! ### `setCause` -/

@[simp] theorem State.setCause_cfg (c : Cause) (s : State) : (s.setCause c).cfg = s.cfg := rfl
@[simp] theorem State.setCause_regs (c : Cause) (s : State) : (s.setCause c).regs = s.regs := rfl
@[simp] theorem State.setCause_ports (c : Cause) (s : State) : (s.setCause c).ports = s.ports := rfl
@[simp] theorem State.setCause_host (c : Cause) (s : State) : (s.setCause c).host = s.host := rfl
@[simp] theorem State.setCause_cycle (c : Cause) (s : State) : (s.setCause c).cycle = s.cycle := rfl
@[simp] theorem State.setCause_nets_lanes (c : Cause) (s : State) :
    (s.setCause c).nets.lanes = s.nets.lanes := rfl
@[simp] theorem State.setCause_nets_syncOk (c : Cause) (s : State) :
    (s.setCause c).nets.syncOk = s.nets.syncOk := rfl
@[simp] theorem State.setCause_nets_idBits (c : Cause) (s : State) :
    (s.setCause c).nets.idBits = s.nets.idBits := rfl
@[simp] theorem State.setCause_nets_fixBits (c : Cause) (s : State) :
    (s.setCause c).nets.fixBits = s.nets.fixBits := rfl
@[simp] theorem State.setCause_nets_pvOk (c : Cause) (s : State) :
    (s.setCause c).nets.pvOk = s.nets.pvOk := rfl
@[simp] theorem State.setCause_nets_pvId (c : Cause) (s : State) :
    (s.setCause c).nets.pvId = s.nets.pvId := rfl
@[simp] theorem State.setCause_nets_found (c : Cause) (s : State) :
    (s.setCause c).nets.found = s.nets.found := rfl
@[simp] theorem State.setCause_nets_index (c : Cause) (s : State) :
    (s.setCause c).nets.index = s.nets.index := rfl
@[simp] theorem State.setCause_nets_cause (c : Cause) (s : State) :
    (s.setCause c).nets.cause = c := rfl

/-! ### `setCtrl` -/

@[simp] theorem State.setCtrl_cfg (rst start : Bool) (s : State) :
    (s.setCtrl rst start).cfg = s.cfg := rfl
@[simp] theorem State.setCtrl_regs (rst start : Bool) (s : State) :
    (s.setCtrl rst start).regs = s.regs := rfl
@[simp] theorem State.setCtrl_nets (rst start : Bool) (s : State) :
    (s.setCtrl rst start).nets = s.nets := rfl
@[simp] theorem State.setCtrl_host (rst start : Bool) (s : State) :
    (s.setCtrl rst start).host = s.host := rfl
@[simp] theorem State.setCtrl_cycle (rst start : Bool) (s : State) :
    (s.setCtrl rst start).cycle = s.cycle := rfl
@[simp] theorem State.setCtrl_ports_rst (rst start : Bool) (s : State) :
    (s.setCtrl rst start).ports.rst = rst := rfl
@[simp] theorem State.setCtrl_ports_start (rst start : Bool) (s : State) :
    (s.setCtrl rst start).ports.start = start := rfl
@[simp] theorem State.setCtrl_ports_buf (rst start : Bool) (s : State) :
    (s.setCtrl rst start).ports.buf = s.ports.buf := rfl

/-! ### `setBuffer` -/

@[simp] theorem State.setBuffer_cfg (b : Buffer) (s : State) : (s.setBuffer b).cfg = s.cfg := rfl
@[simp] theorem State.setBuffer_regs (b : Buffer) (s : State) : (s.setBuffer b).regs = s.regs := rfl
@[simp] theorem State.setBuffer_nets (b : Buffer) (s : State) : (s.setBuffer b).nets = s.nets := rfl
@[simp] theorem State.setBuffer_host (b : Buffer) (s : State) : (s.setBuffer b).host = s.host := rfl
@[simp] theorem State.setBuffer_cycle (b : Buffer) (s : State) :
    (s.setBuffer b).cycle = s.cycle := rfl
@[simp] theorem State.setBuffer_ports_rst (b : Buffer) (s : State) :
    (s.setBuffer b).ports.rst = s.ports.rst := rfl
@[simp] theorem State.setBuffer_ports_start (b : Buffer) (s : State) :
    (s.setBuffer b).ports.start = s.ports.start := rfl
@[simp] theorem State.setBuffer_ports_buf (b : Buffer) (s : State) :
    (s.setBuffer b).ports.buf = b := rfl

/-! ### `setHost` -/

@[simp] theorem State.setHost_cfg (h : List HostLine) (s : State) : (s.setHost h).cfg = s.cfg := rfl
@[simp] theorem State.setHost_regs (h : List HostLine) (s : State) :
    (s.setHost h).regs = s.regs := rfl
@[simp] theorem State.setHost_ports (h : List HostLine) (s : State) :
    (s.setHost h).ports = s.ports := rfl
@[simp] theorem State.setHost_nets (h : List HostLine) (s : State) :
    (s.setHost h).nets = s.nets := rfl
@[simp] theorem State.setHost_host (h : List HostLine) (s : State) : (s.setHost h).host = h := rfl
@[simp] theorem State.setHost_cycle (h : List HostLine) (s : State) :
    (s.setHost h).cycle = s.cycle := rfl

/-! ### `nextCycle` -/

@[simp] theorem State.nextCycle_cfg (s : State) : (s.nextCycle).cfg = s.cfg := rfl
@[simp] theorem State.nextCycle_regs (s : State) : (s.nextCycle).regs = s.regs := rfl
@[simp] theorem State.nextCycle_ports (s : State) : (s.nextCycle).ports = s.ports := rfl
@[simp] theorem State.nextCycle_nets (s : State) : (s.nextCycle).nets = s.nets := rfl
@[simp] theorem State.nextCycle_host (s : State) : (s.nextCycle).host = s.host := rfl
@[simp] theorem State.nextCycle_cycle (s : State) : (s.nextCycle).cycle = s.cycle + 1 := rfl

/-! ### `resetRegs` -/

@[simp] theorem State.resetRegs_cfg (s : State) : (s.resetRegs).cfg = s.cfg := rfl
@[simp] theorem State.resetRegs_ports (s : State) : (s.resetRegs).ports = s.ports := rfl
@[simp] theorem State.resetRegs_host (s : State) : (s.resetRegs).host = s.host := rfl
@[simp] theorem State.resetRegs_cycle (s : State) : (s.resetRegs).cycle = s.cycle := rfl
@[simp] theorem State.resetRegs_regs (s : State) : (s.resetRegs).regs = Regs.reset := rfl
@[simp] theorem State.resetRegs_nets (s : State) :
    (s.resetRegs).nets = { s.nets with cause := .none } := rfl

/-! ### `reject` -/

@[simp] theorem State.reject_cfg (c : Cause) (s : State) : (s.reject c).cfg = s.cfg := rfl
@[simp] theorem State.reject_ports (c : Cause) (s : State) : (s.reject c).ports = s.ports := rfl
@[simp] theorem State.reject_host (c : Cause) (s : State) : (s.reject c).host = s.host := rfl
@[simp] theorem State.reject_cycle (c : Cause) (s : State) : (s.reject c).cycle = s.cycle := rfl
@[simp] theorem State.reject_regs (c : Cause) (s : State) :
    (s.reject c).regs = { s.regs with state := .reject, resStatus := false, resId := 0#5 } := rfl
@[simp] theorem State.reject_nets (c : Cause) (s : State) :
    (s.reject c).nets = { s.nets with cause := c } := rfl

end Sys2Proof.Machine
end

