-- ==== Sys2Proof/Laws/Operations.lean ====
section
/-! SUPPORT. For each shared operation, once, everything it can do: the rejection of a row, the rule of
each state, and the step. -/

namespace Sys2Proof.Machine

/-- The registers after a row is rejected (60_exceptions.md R211 in the detecting state of R200). -/
theorem State.rejectRow_regs (c : Cause) (s : State) :
    (s.rejectRow c).regs = if causeState c = some s.regs.state then
      { s.regs with state := .reject, resStatus := false, resId := 0#5 } else s.regs := by
  unfold State.rejectRow; dsimp only; split <;> simp_all

/-- The signals after a row is rejected (42_packet_validator.md R154). -/
theorem State.rejectRow_nets (c : Cause) (s : State) :
    (s.rejectRow c).nets = { s.nets with pvOk := false, pvId := 0#5, cause := c } := by
  unfold State.rejectRow; dsimp only; split <;> rfl

/-- Rejecting a row touches registers and signals only. -/
theorem State.rejectRow_frame (c : Cause) (s : State) :
    (s.rejectRow c).cfg = s.cfg ∧ (s.rejectRow c).ports = s.ports ∧
      (s.rejectRow c).host = s.host ∧ (s.rejectRow c).cycle = s.cycle := by
  unfold State.rejectRow; dsimp only; split <;> exact ⟨rfl, rfl, rfl, rfl⟩

/-- Rejecting a row, as one update of the state. -/
theorem State.rejectRow_eq (c : Cause) (s : State) :
    s.rejectRow c = { s with
      nets := { s.nets with pvOk := false, pvId := 0#5, cause := c }
      regs := if causeState c = some s.regs.state then
          { s.regs with state := .reject, resStatus := false, resId := 0#5 } else s.regs } := by
  unfold State.rejectRow; dsimp only; split <;> simp_all <;> rfl

/-- What the rule of a state can do to the registers: one line per transition of the state machine
(43_core_sequencer.md R176 to R183). -/
theorem stateRule_cases (s : State) :
    (s.regs.state = .idle ∧ s.ports.start = false ∧ stateRule s = s) ∨
    (s.regs.state = .idle ∧ s.ports.start = true ∧ (stateRule s).regs = { s.regs with state := .select }) ∨
    (s.regs.state = .select ∧ (matcher s.cfg s.ports.buf).1 = true ∧
      (stateRule s).regs = { s.regs with
        state := .checkSync, rowQ := s.ports.buf.word (matcher s.cfg s.ports.buf).2 }) ∨
    (s.regs.state = .checkSync ∧ syncOk s.regs.rowQ = true ∧
      (stateRule s).regs = { s.regs with state := .decode }) ∨
    (s.regs.state = .decode ∧ allOk (rowLanes s.regs.rowQ) = true ∧
      (stateRule s).regs = { s.regs with
        state := .validateFixed, symQ := laneSyms (rowLanes s.regs.rowQ) }) ∨
    (s.regs.state = .validateFixed ∧ anyFixFloating s.regs.symQ = false ∧
      fixAsm (fixBits s.regs.symQ) = kFixedValue ∧
      (stateRule s).regs = { s.regs with state := .validateId }) ∨
    (s.regs.state = .validateId ∧ anyIdHigh s.regs.symQ = false ∧ (stateRule s).nets.cause = .none ∧
      (stateRule s).regs = { s.regs with
        state := .emit, resStatus := true
        resId := idAsm s.cfg.idOrder (Machine.idBits s.regs.symQ) }) ∨
    (causeState (stateRule s).nets.cause = some s.regs.state ∧
      (stateRule s).regs = { s.regs with state := .reject, resStatus := false, resId := 0#5 }) ∨
    ((s.regs.state = .reject ∨ s.regs.state = .emit) ∧
      (stateRule s).regs = { s.regs with state := .idle }) := by
  unfold stateRule
  split
  · rename_i h
    unfold ruleIdle
    split <;> simp_all [State.goto]
  · rename_i h
    unfold ruleSelect; dsimp only
    split
    · simp_all [State.goto, State.setRow, State.setMatch]
    · refine .inr <| .inr <| .inr <| .inr <| .inr <| .inr <| .inr <| .inl ⟨?_, rfl⟩
      simp only [State.reject_nets, selectCause, h]
      split
      · rfl
      · split <;> rfl
  · rename_i h
    unfold ruleCheckSync; dsimp only
    split
    · simp_all [State.goto, State.setSync]
    · exact .inr <| .inr <| .inr <| .inr <| .inr <| .inr <| .inr <| .inl ⟨by simp [h, causeState], rfl⟩
  · rename_i h
    unfold ruleDecode; dsimp only
    split
    · simp_all [State.goto, State.setLanes, State.setSyms]
    · exact .inr <| .inr <| .inr <| .inr <| .inr <| .inr <| .inr <| .inl ⟨by simp [h, causeState], rfl⟩
  · rename_i h
    unfold ruleValidateFixed; dsimp only
    split
    · exact .inr <| .inr <| .inr <| .inr <| .inr <| .inr <| .inr <| .inl ⟨by simp [h, causeState], rfl⟩
    · split
      · exact .inr <| .inr <| .inr <| .inr <| .inr <| .inr <| .inr <| .inl ⟨by simp [h, causeState], rfl⟩
      · simp_all [State.goto, State.setFixBits]
  · rename_i h
    unfold ruleValidateId; dsimp only
    split
    · exact .inr <| .inr <| .inr <| .inr <| .inr <| .inr <| .inr <| .inl ⟨by simp [h, causeState], rfl⟩
    · simp_all [State.goto, State.setIdBits, State.setResult, State.setCause]
  · rename_i h
    exact .inr <| .inr <| .inr <| .inr <| .inr <| .inr <| .inr <| .inr ⟨.inl h, rfl⟩
  · rename_i h
    exact .inr <| .inr <| .inr <| .inr <| .inr <| .inr <| .inr <| .inr ⟨.inr h, rfl⟩

/-- The registers after a rejection is entered (60_exceptions.md R211). -/
def rejectedRegs (r : Regs) : Regs := { r with state := .reject, resStatus := false, resId := 0#5 }

/-- The registers after the rule of the current state: they depend on the configuration, the ports and the
registers alone. -/
def ruleRegs (c : Config) (p : Ports) (r : Regs) : Regs :=
  match r.state with
  | .idle => if p.start then { r with state := .select } else r
  | .select =>
    if (matcher c p.buf).1 then { r with state := .checkSync, rowQ := p.buf.word (matcher c p.buf).2 }
    else rejectedRegs r
  | .checkSync => if syncOk r.rowQ then { r with state := .decode } else rejectedRegs r
  | .decode =>
    if allOk (rowLanes r.rowQ) then
      { r with state := .validateFixed, symQ := laneSyms (rowLanes r.rowQ) }
    else rejectedRegs r
  | .validateFixed =>
    if anyFixFloating r.symQ then rejectedRegs r
    else if fixAsm (fixBits r.symQ) ≠ kFixedValue then rejectedRegs r
    else { r with state := .validateId }
  | .validateId =>
    if anyIdHigh r.symQ then rejectedRegs r
    else { r with state := .emit, resStatus := true, resId := idAsm c.idOrder (idBits r.symQ) }
  | .reject => { r with state := .idle }
  | .emit => { r with state := .idle }

/-- The signals after the rule of the current state. -/
def ruleNets (c : Config) (p : Ports) (r : Regs) (n : Nets) : Nets :=
  match r.state with
  | .idle => n
  | .select =>
    { n with
      found := (matcher c p.buf).1, index := (matcher c p.buf).2
      cause := if (matcher c p.buf).1 then n.cause else selectCause c p.buf }
  | .checkSync =>
    { n with syncOk := syncOk r.rowQ, cause := if syncOk r.rowQ then n.cause else .sync }
  | .decode =>
    { n with
      lanes := rowLanes r.rowQ, cause := if allOk (rowLanes r.rowQ) then n.cause else .badSym }
  | .validateFixed =>
    if anyFixFloating r.symQ then { n with cause := .fixDom }
    else { n with
      fixBits := fixBits r.symQ
      cause := if fixAsm (fixBits r.symQ) ≠ kFixedValue then .fixVal else n.cause }
  | .validateId =>
    if anyIdHigh r.symQ then { n with cause := .idDom }
    else { n with idBits := idBits r.symQ, cause := .none }
  | .reject => n
  | .emit => n

/-- The rule of the current state, as one update of the state. -/
theorem stateRule_eq (s : State) :
    stateRule s = { s with
      regs := ruleRegs s.cfg s.ports s.regs, nets := ruleNets s.cfg s.ports s.regs s.nets } := by
  unfold stateRule ruleRegs ruleNets
  cases h : s.regs.state <;> simp only
  · unfold ruleIdle; split <;> rfl
  · unfold ruleSelect; dsimp only; split <;> rfl
  · unfold ruleCheckSync; dsimp only; split <;> simp_all <;> rfl
  · unfold ruleDecode; dsimp only; split <;> rfl
  · unfold ruleValidateFixed; dsimp only
    split
    · rfl
    · split <;> rfl
  · unfold ruleValidateId; dsimp only; split <;> rfl
  · rfl
  · rfl

/-- The rule of a state changes registers and signals only. -/
theorem stateRule_frame (s : State) :
    (stateRule s).cfg = s.cfg ∧ (stateRule s).ports = s.ports ∧ (stateRule s).host = s.host ∧
      (stateRule s).cycle = s.cycle := by
  rw [stateRule_eq]; exact ⟨rfl, rfl, rfl, rfl⟩

/-- The operation that the `state` register selects runs its rule. -/
theorem exec_stateInstr (s : State) : exec (stateInstr s.regs.state) s = .next (stateRule s) := by
  unfold stateRule
  cases h : s.regs.state <;> rfl

/-- What a clock edge makes of a driven state: reset, or the rule of the current state
(43_core_sequencer.md R172). -/
def edgeOf (d : State) : State :=
  if d.ports.rst then (d.setCtrl true d.ports.start).resetRegs else stateRule d

/-- The operation of a cycle is its clock edge. -/
theorem exec_cycleInstr (d : State) : exec (cycleInstr d) d = .next (edgeOf d) := by
  unfold cycleInstr edgeOf
  split
  · rfl
  · exact exec_stateInstr d

/-- A clock edge changes neither the configuration, the buffer, the host's lines nor the cycle number. -/
theorem edgeOf_frame (d : State) :
    (edgeOf d).cfg = d.cfg ∧ (edgeOf d).ports.buf = d.ports.buf ∧ (edgeOf d).host = d.host ∧
      (edgeOf d).cycle = d.cycle := by
  unfold edgeOf
  split
  · exact ⟨rfl, rfl, rfl, rfl⟩
  · obtain ⟨h1, h2, h3, h4⟩ := stateRule_frame d
    exact ⟨h1, by rw [h2], h3, h4⟩

/-! ### The step, one lemma per form of the host's next line -/

theorem step_nil {s : State} (h : s.host = []) : step s = .next (edgeOf (driveFree s)) := by
  simp only [step, fetch, h, exec_cycleInstr]

theorem step_cycle {s : State} {c : BitVec 2} {rest : List HostLine} (h : s.host = .cycle c :: rest) :
    step s = .next (edgeOf (driveCtrl c (s.setHost rest))) := by
  simp only [step, fetch, h, exec_cycleInstr]

theorem step_waitDone {s : State} {rest : List HostLine} (h : s.host = .waitDone :: rest) :
    step s = .next (edgeOf (driveCtrl 0b00#2 (s.setHost (afterWait s rest)))) := by
  simp only [step, fetch, h, exec_cycleInstr]

theorem step_decode {s : State} {rest : List HostLine} (h : s.host = .decode :: rest) :
    step s = .next (edgeOf (driveCtrl 0b01#2 (s.setHost (.waitDone :: rest)))) := by
  simp only [step, fetch, h, exec_cycleInstr]

theorem step_reset {s : State} {rest : List HostLine} (h : s.host = .reset :: rest) :
    step s = .next (edgeOf (driveCtrl 0b10#2 (s.setHost (HostLine.nop :: rest)))) := by
  simp only [step, fetch, h, exec_cycleInstr]

theorem step_buf {s : State} {b : BufLine} {rest : List HostLine} (h : s.host = .buf b :: rest) :
    step s = match bufFault s.cfg b with
      | some f => .fault f
      | none => .next ((s.setHost rest).setBuffer (bufferOfLine b)) := by
  simp only [step, fetch, h]
  cases bufFault s.cfg b <;> rfl

theorem step_present {s : State} {b : BlockSite} {w : Nat} {rest : List HostLine}
    (h : s.host = .present b w :: rest) :
    step s = match presented b w with
      | some i => settled (s.setHost rest) (exec i (s.setHost rest))
      | none => .refused .noOperation := by
  simp only [step, fetch, h]
  cases presented b w <;> rfl

theorem step_matchRows {s : State} {rest : List HostLine} (h : s.host = .matchRows :: rest) :
    step s = .next ((s.setHost rest).setMatch (matcher s.cfg s.ports.buf)) := by
  simp only [step, fetch, h]

/-- A run of one more step, when the first step answers a next state. -/
theorem run_succ_of_next {s t : State} (k : Nat) (h : step s = .next t) :
    core.run (k + 1) s = core.run k t := by
  have e := Host.Core.run.eq_2 core s k
  have hs : core.step s = .next t := h
  rw [hs] at e
  exact e

/-- A directive has no fault exactly when its checks pass. -/
theorem bufFault_eq_none_iff {c : Config} {b : BufLine} :
    bufFault c b = none ↔ b.wellFormed c = true := by
  unfold bufFault BufLine.wellFormed
  cases b.slotsExist c <;> cases b.countFits c <;> cases b.lensFit c <;>
    cases b.slotsDistinct <;> simp

/-- Every step that answers a next state is the clock edge of a driven cycle, or changes no register:
it leaves the ports alone or puts a well-formed directive's buffer on them. -/
theorem step_cases {s t : State} (h : step s = .next t) :
    (∃ d : State, d.cfg = s.cfg ∧ d.regs = s.regs ∧ d.nets = s.nets ∧ d.cycle = s.cycle + 1 ∧
      (d.ports.buf = s.ports.buf ∨ d.ports.buf = freeBuffer s.cfg s.cycle) ∧ t = edgeOf d) ∨
    (t.cfg = s.cfg ∧ t.regs = s.regs ∧ t.cycle = s.cycle ∧
      (t.ports = s.ports ∨ ∃ b rest, s.host = .buf b :: rest ∧ b.wellFormed s.cfg = true ∧
        t.ports = { s.ports with buf := bufferOfLine b })) := by
  cases hh : s.host with
  | nil =>
    rw [step_nil hh] at h
    exact .inl ⟨driveFree s, rfl, rfl, rfl, rfl, .inr rfl, by cases h; rfl⟩
  | cons l rest =>
    cases l with
    | cycle c =>
      rw [step_cycle hh] at h
      exact .inl ⟨driveCtrl c (s.setHost rest), rfl, rfl, rfl, rfl, .inl rfl, by cases h; rfl⟩
    | waitDone =>
      rw [step_waitDone hh] at h
      exact .inl ⟨driveCtrl 0b00#2 (s.setHost (afterWait s rest)), rfl, rfl, rfl, rfl, .inl rfl,
        by cases h; rfl⟩
    | decode =>
      rw [step_decode hh] at h
      exact .inl ⟨driveCtrl 0b01#2 (s.setHost (.waitDone :: rest)), rfl, rfl, rfl, rfl, .inl rfl,
        by cases h; rfl⟩
    | reset =>
      rw [step_reset hh] at h
      exact .inl ⟨driveCtrl 0b10#2 (s.setHost (HostLine.nop :: rest)), rfl, rfl, rfl, rfl, .inl rfl,
        by cases h; rfl⟩
    | buf b =>
      rw [step_buf hh] at h
      cases hf : bufFault s.cfg b with
      | some f => simp [hf] at h
      | none =>
        rw [hf] at h
        cases h
        exact .inr ⟨rfl, rfl, rfl, .inr ⟨b, rest, rfl, bufFault_eq_none_iff.1 hf, rfl⟩⟩
    | present b w =>
      rw [step_present hh] at h
      cases hp : presented b w with
      | none => simp [hp] at h
      | some i =>
        simp only [hp] at h
        generalize exec i (s.setHost rest) = o at h
        cases o <;> cases h
        exact .inr ⟨rfl, rfl, rfl, .inl rfl⟩
    | matchRows =>
      rw [step_matchRows hh] at h
      cases h
      exact .inr ⟨rfl, rfl, rfl, .inl rfl⟩

/-- A presented word that fits its site's format is evaluated. -/
theorem presented_of_wellFormed {c : Config} {b : BlockSite} {w : Nat}
    (h : HostLine.wellFormed c (.present b w) = true) : ∃ i, presented b w = some i := by
  have hw : w < 2 ^ b.site.width := of_decide_eq_true h
  cases b with
  | row => exact ⟨_, if_pos hw⟩
  | sync => (change w < 2 at hw); interval_cases w <;> exact ⟨_, rfl⟩
  | pair i => (change w < 4 at hw); interval_cases w <;> exact ⟨_, rfl⟩
  | idPair i => (change w < 4 at hw); interval_cases w <;> exact ⟨_, rfl⟩
  | fixPair j => (change w < 4 at hw); interval_cases w <;> exact ⟨_, rfl⟩

/-- A clock edge leaves the ports as they are driven. -/
@[simp] theorem edgeOf_ports (d : State) : (edgeOf d).ports = d.ports := by
  unfold edgeOf
  split
  · rename_i h
    exact congrArg (fun b => ({ d.ports with rst := b } : Ports)) h.symm
  · exact (stateRule_frame d).2.1

/-- A step either makes one clock edge or makes none and changes no register. -/
theorem step_cycle_cases {s t : State} (h : step s = .next t) :
    t.cycle = s.cycle + 1 ∨ (t.cycle = s.cycle ∧ t.regs = s.regs) := by
  rcases step_cases h with ⟨d, -, -, -, hc, -, rfl⟩ | ⟨-, hr, hc, -⟩
  · exact .inl (by rw [(edgeOf_frame d).2.2.2, hc])
  · exact .inr ⟨hc, hr⟩

/-- No step changes the configuration. -/
theorem step_cfg {s t : State} (h : step s = .next t) : t.cfg = s.cfg := by
  rcases step_cases h with ⟨d, hc, -, -, -, -, rfl⟩ | ⟨hc, -⟩
  · rw [(edgeOf_frame d).1, hc]
  · exact hc

/-- A step that makes an edge in a cycle with `rst` = 0 runs the rule of the current state on the ports of
that cycle. -/
theorem step_edge {s t : State} (h : step s = .next t) (hc : t.cycle = s.cycle + 1)
    (hr : t.ports.rst = false) :
    t.regs = ruleRegs s.cfg t.ports s.regs ∧ t.nets = ruleNets s.cfg t.ports s.regs s.nets := by
  rcases step_cases h with ⟨d, h1, h2, h3, -, -, rfl⟩ | ⟨-, -, h4, -⟩
  · rw [edgeOf_ports] at hr ⊢
    have he : edgeOf d = stateRule d := by simp [edgeOf, hr]
    rw [he, stateRule_eq, h1, h2, h3]
    exact ⟨rfl, rfl⟩
  · omega

/-! ### Runs -/

/-- A run of one more step that answers a next state begins with a step that does. -/
theorem run_succ_inv {n : Nat} {s u : State} (h : core.run (n + 1) s = .next u) :
    ∃ t, step s = .next t ∧ core.run n t = .next u := by
  have e := Host.Core.run.eq_2 core s n
  rw [h] at e
  cases hs : step s with
  | next t => exact ⟨t, rfl, ((run_succ_of_next n hs).symm.trans h)⟩
  | fault f =>
    rw [show core.step s = .fault f from hs] at e
    cases e
  | refused r =>
    rw [show core.step s = .refused r from hs] at e
    cases e

/-- No run turns the cycle count back. -/
theorem run_cycle_le {n : Nat} {s u : State} (h : core.run n s = .next u) : s.cycle ≤ u.cycle := by
  induction n generalizing s with
  | zero => cases h; exact le_rfl
  | succ n ih =>
    obtain ⟨t, ht, hu⟩ := run_succ_inv h
    have := ih hu
    rcases step_cycle_cases ht with hc | ⟨hc, -⟩ <;> omega

/-- The control port says `rst` = 0 in every cycle of a step and the run after it. -/
theorem rstLow_succ {n : Nat} {s t : State} (h : step s = .next t) :
    rstLow (n + 1) s = true ↔ t.ports.rst = false ∧ rstLow n t = true := by
  simp [rstLow, h]

/-! ### The host's lines -/

/-- A step from well-formed lines completes; it leaves well-formed lines, and it makes an edge or uses a line
up. -/
theorem step_of_wellFormed {s : State} (h : ∀ l ∈ s.host, l.wellFormed s.cfg = true) :
    ∃ t, step s = .next t ∧ (∀ l ∈ t.host, l.wellFormed t.cfg = true) ∧
      ((t.cycle = s.cycle + 1 ∧ t.host.length ≤ s.host.length) ∨
        (t.cycle = s.cycle ∧ t.host.length + 1 = s.host.length)) := by
  cases hh : s.host with
  | nil =>
    refine ⟨_, step_nil hh, ?_, .inl ⟨(edgeOf_frame _).2.2.2, ?_⟩⟩ <;>
      simp [edgeOf_frame, driveFree, State.setBuffer, State.setCtrl, State.nextCycle, hh]
  | cons l rest =>
    rw [hh] at h
    have hrest : ∀ l ∈ rest, l.wellFormed s.cfg = true := fun l hl => h l (List.mem_cons_of_mem _ hl)
    have hl : l.wellFormed s.cfg = true := h l List.mem_cons_self
    have edge : ∀ (c : BitVec 2) (hs : List HostLine), (∀ l ∈ hs, l.wellFormed s.cfg = true) →
        hs.length ≤ rest.length + 1 → step s = .next (edgeOf (driveCtrl c (s.setHost hs))) →
        ∃ t, step s = .next t ∧ (∀ l ∈ t.host, l.wellFormed t.cfg = true) ∧
          ((t.cycle = s.cycle + 1 ∧ t.host.length ≤ rest.length + 1) ∨
            (t.cycle = s.cycle ∧ t.host.length + 1 = rest.length + 1)) := fun c hs h1 h2 h3 => by
      obtain ⟨e1, -, e3, e4⟩ := edgeOf_frame (driveCtrl c (s.setHost hs))
      refine ⟨_, h3, ?_, .inl ⟨e4, ?_⟩⟩
      · rw [e1, e3]; exact h1
      · rw [e3]; exact h2
    simp only [List.length_cons]
    cases l with
    | cycle c => exact edge c rest hrest (by omega) (step_cycle hh)
    | waitDone =>
      refine edge _ (afterWait s rest) ?_ ?_ (step_waitDone hh) <;> unfold afterWait <;> split
      · exact hrest
      · exact List.forall_mem_cons.2 ⟨rfl, hrest⟩
      · omega
      · exact le_rfl
    | decode => exact edge _ _ (List.forall_mem_cons.2 ⟨rfl, hrest⟩) le_rfl (step_decode hh)
    | reset => exact edge _ _ (List.forall_mem_cons.2 ⟨rfl, hrest⟩) le_rfl (step_reset hh)
    | buf b =>
      have hb := step_buf hh
      rw [bufFault_eq_none_iff.2 hl] at hb
      exact ⟨_, hb, hrest, .inr ⟨rfl, rfl⟩⟩
    | present b w =>
      have hp := step_present hh
      obtain ⟨i, hi⟩ := presented_of_wellFormed hl
      obtain ⟨u, hu⟩ : ∃ u, exec i (s.setHost rest) = .next u := by cases i <;> exact ⟨_, rfl⟩
      simp only [hi, hu] at hp
      exact ⟨_, hp, hrest, .inr ⟨rfl, rfl⟩⟩
    | matchRows => exact ⟨_, step_matchRows hh, hrest, .inr ⟨rfl, rfl⟩⟩

/-- A host whose lines are well formed reaches every later cycle. -/
theorem run_reaches {s : State} (h : ∀ l ∈ s.host, l.wellFormed s.cfg = true) (k : Nat) :
    ∃ n ≤ s.host.length + k, ∃ t, core.run n s = .next t ∧ t.cycle = s.cycle + k := by
  suffices ∀ (m : Nat) (s : State) (k : Nat), (∀ l ∈ s.host, l.wellFormed s.cfg = true) →
      s.host.length + k ≤ m → ∃ n ≤ m, ∃ t, core.run n s = .next t ∧ t.cycle = s.cycle + k from
    this _ s k h le_rfl
  intro m
  induction m with
  | zero => exact fun s k _ hk => ⟨0, le_rfl, s, rfl, by omega⟩
  | succ m ih =>
    intro s k h hk
    cases k with
    | zero => exact ⟨0, Nat.zero_le _, s, rfl, rfl⟩
    | succ k =>
      obtain ⟨t, ht, hw, hc⟩ := step_of_wellFormed h
      obtain ⟨n, hn, u, hu, hcu⟩ : ∃ n ≤ m, ∃ u, core.run n t = .next u ∧
          u.cycle = s.cycle + (k + 1) := by
        rcases hc with ⟨hc, hl⟩ | ⟨hc, hl⟩
        · obtain ⟨n, hn, u, hu, hcu⟩ := ih t k hw (by omega)
          exact ⟨n, hn, u, hu, by omega⟩
        · obtain ⟨n, hn, u, hu, hcu⟩ := ih t (k + 1) hw (by omega)
          exact ⟨n, hn, u, hu, by omega⟩
      exact ⟨n + 1, by omega, u, (run_succ_of_next n ht).trans hu, hcu⟩

end Sys2Proof.Machine
end

