-- ==== Sys2Proof/Laws/PerInstr.lean ====
section
/-! SUPPORT. A fact about every operation as syntax: the word that the encoder gives it fits the format of
its site (30_encoding.md R70). -/

namespace Sys2Proof.Laws.EncodeFits

/-- The encoded word is no wider than the site's format. -/
def Statement (i : Instr) : Prop := (encode i).2 < 2 ^ (encode i).1.width

theorem symLow (i : Fin 12) : Statement (.symLow i) := by simp [Statement, encode, Site.width]
theorem symHigh (i : Fin 12) : Statement (.symHigh i) := by simp [Statement, encode, Site.width]
theorem symFloating (i : Fin 12) : Statement (.symFloating i) := by simp [Statement, encode, Site.width]
theorem symNone (i : Fin 12) : Statement (.symNone i) := by simp [Statement, encode, Site.width]
theorem idBit1 (i : Fin 5) : Statement (.idBit1 i) := by simp [Statement, encode, Site.width]
theorem idBit0 (i : Fin 5) : Statement (.idBit0 i) := by simp [Statement, encode, Site.width]
theorem idRejHigh (i : Fin 5) : Statement (.idRejHigh i) := by simp [Statement, encode, Site.width]
theorem idRejNone (i : Fin 5) : Statement (.idRejNone i) := by simp [Statement, encode, Site.width]
theorem fixBit0 (j : Fin 7) : Statement (.fixBit0 j) := by simp [Statement, encode, Site.width]
theorem fixBit1 (j : Fin 7) : Statement (.fixBit1 j) := by simp [Statement, encode, Site.width]
theorem fixRejFloating (j : Fin 7) : Statement (.fixRejFloating j) := by simp [Statement, encode, Site.width]
theorem fixRejNone (j : Fin 7) : Statement (.fixRejNone j) := by simp [Statement, encode, Site.width]
theorem syncOk : Statement .syncOk := by simp [Statement, encode, Site.width]
theorem syncFail : Statement .syncFail := by simp [Statement, encode, Site.width]
theorem rowAccept (w : RowWord) : Statement (.rowAccept w) := w.isLt
theorem cmdReset (start : Bool) : Statement (.cmdReset start) := by cases start <;> simp [Statement, encode, Site.width]
theorem cmdStart : Statement .cmdStart := by simp [Statement, encode, Site.width]
theorem cmdNop : Statement .cmdNop := by simp [Statement, encode, Site.width]
theorem stIdle : Statement .stIdle := by simp [Statement, encode, Site.width]
theorem stSelect : Statement .stSelect := by simp [Statement, encode, Site.width]
theorem stCheckSync : Statement .stCheckSync := by simp [Statement, encode, Site.width]
theorem stDecode : Statement .stDecode := by simp [Statement, encode, Site.width]
theorem stValidateFixed : Statement .stValidateFixed := by simp [Statement, encode, Site.width]
theorem stValidateId : Statement .stValidateId := by simp [Statement, encode, Site.width]
theorem stReject : Statement .stReject := by simp [Statement, encode, Site.width]
theorem stEmit : Statement .stEmit := by simp [Statement, encode, Site.width]

end Sys2Proof.Laws.EncodeFits
end

