-- ==== Sys2Proof/Tests/Slice0.lean ====
section
/-! SUPPORT. The model's own tests: well-formedness checks, words written out from the tables of
30_encoding.md, vectors of 95_test_vectors.md (named as there), and, for every statement that has
hypotheses, a witness that meets them. -/

namespace Sys2Proof.Machine.Tests

/-! ### Helpers -/

/-- A well-formed instance of eight slots. -/
def cfg8 : Config := Config.built

/-- Four copies of a word, each of length 25. -/
def four (w : RowWord) : List SlotEntry := [⟨0, 25, w⟩, ⟨1, 25, w⟩, ⟨2, 25, w⟩, ⟨3, 25, w⟩]

/-- Slots given as `len:word`, from slot 0 on. -/
def rowsOf (n : Nat) (rows : List (Nat × RowWord)) : Buffer :=
  bufferOfLine { count := n, slots := rows.zipIdx.map fun e => ⟨e.2, e.1.1, e.1.2⟩ }

/-- The words of 95_test_vectors.md section 2.4. -/
abbrev wA : RowWord := 0x15DE1FF#25
abbrev wA' : RowWord := 0x15DE1FE#25
abbrev wZ : RowWord := 0x1FFE1FF#25
abbrev wX : RowWord := 0x15DC1FF#25

/-- The instance in a state, with a row kept, its symbols kept, a buffer and host lines. -/
def at' (st : SeqState) (row : RowWord) (b : Buffer) (host : List HostLine) : State :=
  { State.reset with
    regs := { Regs.reset with state := st, rowQ := row, symQ := laneSyms (rowLanes row) }
    ports := { Ports.undriven with buf := b }
    host := host }

/-- What the outputs show after a step: the state, `status` and `id`. -/
def seen : Host.Outcome State Fault Refusal → Option (SeqState × Bool × Ident)
  | .next t => some (t.regs.state, t.regs.status, t.regs.id)
  | .fault _ => none
  | .refused _ => none

/-- The cause label after a step. -/
def label : Host.Outcome State Fault Refusal → Option Cause
  | .next t => some t.nets.cause
  | .fault _ => none
  | .refused _ => none

/-- The fault of a step that stops with one. -/
def stop : Host.Outcome State Fault Refusal → Option Fault
  | .next _ => none
  | .fault f => some f
  | .refused _ => none

/-- A signal or field after a step. -/
def after {α : Type} (f : State → α) : Host.Outcome State Fault Refusal → Option α
  | .next t => some (f t)
  | .fault _ => none
  | .refused _ => none

/-! ### Well-formedness: one ill-formed term for each check -/

theorem test_wf_row_word_refused : Instr.wellFormed (.rowAccept 0x15DE1FE#25) = false := by decide
theorem test_wf_row_word : Instr.wellFormed (.rowAccept 0x15DE1FF#25) = true := by decide
theorem test_wf_slot_missing : (BufLine.mk 4 [⟨8, 25, wA⟩]).slotsExist cfg8 = false := by decide
theorem test_wf_count_too_wide : (BufLine.mk 16 []).countFits cfg8 = false := by decide
theorem test_wf_length_too_wide : (BufLine.mk 4 [⟨0, 32, wA⟩]).lensFit cfg8 = false := by decide
theorem test_wf_slot_twice : (BufLine.mk 4 [⟨0, 25, wA⟩, ⟨0, 25, wZ⟩]).slotsDistinct = false := by decide
theorem test_wf_buf_line : (BufLine.mk 4 (four wA)).wellFormed cfg8 = true := by decide
theorem test_wf_presented_word : HostLine.wellFormed cfg8 (.present (.pair 3) 4) = false := by decide
theorem test_cfg8_legal : cfg8.wf := by decide
theorem test_idxW_of_eight_slots : cfg8.idxW = 3 := by decide

/-! ### Decoding: words written out from 30_encoding.md -/

/-- R71: LOW 11, HIGH 00, FLOATING 10, NONE 01, at any lane. -/
theorem test_decode_pair :
    decode (.pair 0) 0b11 = .ok (.symLow 0) ∧ decode (.pair 11) 0b00 = .ok (.symHigh 11) ∧
    decode (.pair 5) 0b10 = .ok (.symFloating 5) ∧ decode (.pair 7) 0b01 = .ok (.symNone 7) := by
  refine ⟨rfl, rfl, rfl, rfl⟩

/-- R77. -/
theorem test_decode_idpair :
    decode (.idPair 4) 0b11 = .ok (.idBit1 4) ∧ decode (.idPair 0) 0b10 = .ok (.idBit0 0) ∧
    decode (.idPair 2) 0b00 = .ok (.idRejHigh 2) ∧ decode (.idPair 3) 0b01 = .ok (.idRejNone 3) := by
  refine ⟨rfl, rfl, rfl, rfl⟩

/-- R78. -/
theorem test_decode_fixpair :
    decode (.fixPair 0) 0b11 = .ok (.fixBit0 0) ∧ decode (.fixPair 1) 0b00 = .ok (.fixBit1 1) ∧
    decode (.fixPair 6) 0b10 = .ok (.fixRejFloating 6) ∧
    decode (.fixPair 3) 0b01 = .ok (.fixRejNone 3) := by
  refine ⟨rfl, rfl, rfl, rfl⟩

/-- 42_packet_validator.md R141. -/
theorem test_decode_sync : decode .sync 1 = .ok .syncOk ∧ decode .sync 0 = .ok .syncFail := by
  refine ⟨rfl, rfl⟩

/-- R80: `1a1b1c1d1e110000111111111` with `a b c d e` = 0 0 1 0 1. -/
theorem test_decode_row :
    decode .row 0b1010111011110000111111111 = .ok (.rowAccept 0x15DE1FF#25) := by decide

/-- R81: every other row word is rejected (vector PV-1). -/
theorem test_decode_row_rejected : decode .row 0x15DE1FE = .error .rowRejected := by decide

/-- R74: `1x`, `01`, `00`. -/
theorem test_decode_ctrl :
    decode .ctrl 0b10 = .ok (.cmdReset false) ∧ decode .ctrl 0b11 = .ok (.cmdReset true) ∧
    decode .ctrl 0b01 = .ok .cmdStart ∧ decode .ctrl 0b00 = .ok .cmdNop := by
  refine ⟨rfl, rfl, rfl, rfl⟩

/-- R75. -/
theorem test_decode_state :
    decode .state 0b000 = .ok .stIdle ∧ decode .state 0b001 = .ok .stSelect ∧
    decode .state 0b010 = .ok .stCheckSync ∧ decode .state 0b011 = .ok .stDecode ∧
    decode .state 0b100 = .ok .stValidateFixed ∧ decode .state 0b101 = .ok .stValidateId ∧
    decode .state 0b110 = .ok .stReject ∧ decode .state 0b111 = .ok .stEmit := by
  refine ⟨rfl, rfl, rfl, rfl, rfl, rfl, rfl, rfl⟩

/-- A number with more bits than the format is no word of it. -/
theorem test_decode_too_wide :
    decode (.pair 0) 4 = .error .tooWide ∧ decode .sync 2 = .error .tooWide ∧
    decode .state 8 = .error .tooWide ∧ decode .row 0x2000000 = .error .tooWide := by
  refine ⟨rfl, rfl, rfl, rfl⟩

/-- The table's words reach the decoder: a STATE row, and the row word. -/
theorem test_table_words :
    decodeTableWord 8 0b101 = some .stValidateId ∧
    decodeTableWord 32 0x15561FF = some (.rowAccept 0x15561FF#25) ∧
    decodeTableWord 32 0x15561FE = none := by decide

/-! ### Symbols, fields and rows -/

/-- LC-1 to LC-4. -/
theorem test_lcsd :
    lcsd 0b11#2 = ⟨.low, true⟩ ∧ lcsd 0b00#2 = ⟨.high, true⟩ ∧
    lcsd 0b10#2 = ⟨.floating, true⟩ ∧ lcsd 0b01#2 = ⟨.none, false⟩ := by decide

/-- W2: F F L F L · L H H L L L L. -/
theorem test_lanes_of_the_example :
    laneSyms (rowLanes wA) = #v[.floating, .floating, .low, .floating, .low, .low, .high, .high,
      .low, .low, .low, .low] := by decide

/-- Section 2.1: `0x0DDE1FF` has NONE in lane 0, `0x0000000` is twelve HIGHs. -/
theorem test_all_ok :
    allOk (rowLanes 0x0DDE1FF#25) = false ∧ allOk (rowLanes 0#25) = true ∧
    allOk (rowLanes 0x0AAAAAA#25) = false := by decide

/-- W2: bytes `ae f0 ff 80`. -/
theorem test_row_of_bytes : rowOfBytes 0xae#8 0xf0#8 0xff#8 0x80#8 = wA := by decide

/-- W2: identifier 5, and 20 in the other order. -/
theorem test_pv_of_the_example : pv .msbFirst wA = (true, 5#5) ∧ pv .lsbFirst wA = (true, 20#5) := by
  decide

/-- PV-ALL, identifiers 0, 19 and 31. -/
theorem test_pv_all :
    pv .msbFirst 0x15561FF#25 = (true, 0#5) ∧ pv .msbFirst 0x1D7E1FF#25 = (true, 19#5) ∧
    pv .msbFirst 0x1FFE1FF#25 = (true, 31#5) := by decide

/-- PV-1 to PV-5. -/
theorem test_pv_causes_a :
    rowCause 0x15DE1FE#25 = .sync ∧ rowCause 0x05DE1FF#25 = .idDom ∧
    rowCause 0x0DDE1FF#25 = .badSym ∧ rowCause 0x15DC1FF#25 = .fixDom ∧
    rowCause 0x15DE9FF#25 = .badSym := by decide

/-- PV-6 to PV-10. -/
theorem test_pv_causes_b :
    rowCause 0x15DE07F#25 = .fixVal ∧ rowCause 0x15DE1FB#25 = .badSym ∧
    rowCause 0x0000000#25 = .sync ∧ rowCause 0x1FFFFFF#25 = .fixVal ∧
    rowCause 0x15D99FF#25 = .fixVal := by decide

/-- PV-11 and 42_packet_validator.md R158 item 7. -/
theorem test_pv_eleven : pv .msbFirst 0x15D61FF#25 = (true, 4#5) := by decide

/-! ### The repetition_matcher -/

/-- RM-1 and RM-2. -/
theorem test_rm_1_2 :
    matcher cfg8 (rowsOf 4 [(25, wA), (25, wA), (25, wA), (25, wA)]) = (true, 0) ∧
    matcher cfg8 (rowsOf 3 [(25, wA), (25, wA), (25, wA), (25, wA)]) = (false, 0) := by decide

/-- RM-2 to RM-5: the three causes of SELECT. -/
theorem test_rm_causes :
    decodeCause cfg8 (rowsOf 3 [(25, wA), (25, wA), (25, wA), (25, wA)]) = .rowCount ∧
    decodeCause cfg8 (rowsOf 5 [(25, wA), (25, wA), (25, wA'), (24, wA), (25, wA)]) = .noRepeat ∧
    decodeCause cfg8 (rowsOf 4 [(24, wA), (24, wA), (24, wA), (24, wA)]) = .noLen := by decide

/-- RM-6. -/
theorem test_rm_6 :
    decodeBuffer cfg8 (rowsOf 6 [(25, 0x0000123#25), (25, wZ), (25, wZ), (26, wZ), (25, wZ), (25, wZ)])
      = (true, 31#5) := by decide

/-- RM-7: no fallback to the second group. -/
theorem test_rm_7 :
    decodeCause cfg8 (rowsOf 8 [(25, wX), (25, wA), (25, wX), (25, wA), (25, wX), (25, wA), (25, wX),
      (25, wA)]) = .fixDom := by decide

/-- RM-9: the count of 9 is clamped to eight slots, and the lowest group wins. -/
theorem test_rm_9 :
    matcher cfg8 (rowsOf 9 [(25, wZ), (25, wA), (25, wA), (25, wA), (25, wZ), (25, wZ), (25, wZ),
      (25, wA)]) = (true, 0) := by decide

/-- RM-11: slot 4 is driven and not present. -/
theorem test_rm_11 :
    decodeCause cfg8 (rowsOf 4 [(25, wA), (25, wA), (25, wA), (25, wZ), (25, wA)]) = .noRepeat := by
  decide

/-- RM-12: a group of five, lowest slot 1. -/
theorem test_rm_12 :
    matcher cfg8 (rowsOf 6 [(25, wZ), (25, wA), (25, wA), (25, wA), (25, wA), (25, wA)])
      = (true, 1) := by decide

/-! ### The operations, by the step that runs them -/

/-- LC-3 on lane 5. -/
theorem test_symFloating :
    after (·.nets.lanes[5]) (exec (.symFloating 5) State.reset) = some ⟨.floating, true⟩ := by decide

/-- LC-1 and LC-2. -/
theorem test_symLow_symHigh :
    after (·.nets.lanes[0]) (exec (.symLow 0) State.reset) = some ⟨.low, true⟩ ∧
    after (·.nets.lanes[11]) (exec (.symHigh 11) State.reset) = some ⟨.high, true⟩ := by decide

/-- LC-4: in DECODE, the row is rejected with RJ_BADSYM. -/
theorem test_symNone :
    seen (exec (.symNone 5) (at' .decode 0x0DDE1FF#25 Ports.undriven.buf []))
      = some (.reject, false, 0#5) ∧
    label (exec (.symNone 5) (at' .decode 0x0DDE1FF#25 Ports.undriven.buf [])) = some .badSym := by
  decide

/-- FP-1 and FP-2. -/
theorem test_id_bits :
    after (·.nets.idBits[4]) (exec (.idBit1 4) State.reset) = some true ∧
    after (·.nets.idBits[0]) (exec (.idBit0 0) State.reset) = some false := by decide

/-- FP-3 and FP-4. -/
theorem test_id_rejections :
    label (exec (.idRejHigh 0) State.reset) = some .idDom ∧
    label (exec (.idRejNone 0) State.reset) = some .badSym := by decide

/-- FP-5 and FP-6. -/
theorem test_fix_bits :
    after (·.nets.fixBits[0]) (exec (.fixBit0 0) State.reset) = some false ∧
    after (·.nets.fixBits[6]) (exec (.fixBit1 6) State.reset) = some true := by decide

/-- FP-7 and FP-8. -/
theorem test_fix_rejections :
    label (exec (.fixRejFloating 0) State.reset) = some .fixDom ∧
    label (exec (.fixRejNone 0) State.reset) = some .badSym := by decide

/-- FP-9. -/
theorem test_syncOk : after (·.nets.syncOk) (exec .syncOk State.reset) = some true := by decide

/-- FP-10. -/
theorem test_syncFail :
    seen (exec .syncFail (at' .checkSync wA' Ports.undriven.buf [])) = some (.reject, false, 0#5) := by
  decide

/-- ROW_ACCEPT of the example row, from the row port. -/
theorem test_rowAccept :
    after (fun t => (t.nets.pvOk, t.nets.pvId)) (step (State.reset.withFetchWord 32 0x15DE1FF))
      = some (true, 5#5) := by decide

/-- CT-1 and CT-2. -/
theorem test_cmdReset :
    after (·.regs) (step (at' .decode wA Ports.undriven.buf [.cycle 0b10#2])) = some Regs.reset ∧
    after (·.regs) (step (at' .emit wA Ports.undriven.buf [.cycle 0b11#2])) = some Regs.reset := by
  decide

/-- CT-3 and CT-6. -/
theorem test_cmdStart :
    seen (step (at' .idle 0#25 Ports.undriven.buf [.start])) = some (.select, false, 0#5) ∧
    seen (step (at' .emit wA Ports.undriven.buf [.start])) = some (.idle, false, 0#5) := by decide

/-- CT-4. -/
theorem test_cmdNop :
    seen (step (at' .idle 0#25 Ports.undriven.buf [.nop])) = some (.idle, false, 0#5) := by decide

/-- SQ-1, cycle 1: slot 0 of RM-1 is taken. -/
theorem test_stSelect :
    after (fun t => (t.regs.state, t.regs.rowQ))
      (step (at' .select 0#25 (bufferOfLine ⟨4, four wA⟩) [.nop])) = some (.checkSync, wA) := by decide

/-- SQ-2, cycle 1. -/
theorem test_stSelect_rejects :
    label (step (at' .select 0#25 (bufferOfLine ⟨3, four wA⟩) [.nop])) = some .rowCount := by decide

/-- SQ-1 and SQ-3, cycle 2. -/
theorem test_stCheckSync :
    seen (step (at' .checkSync wA Ports.undriven.buf [.nop])) = some (.decode, false, 0#5) ∧
    seen (step (at' .checkSync wA' Ports.undriven.buf [.nop])) = some (.reject, false, 0#5) := by decide

/-- P1, cycle 6: `sym_q` holds FFLFLLHHLLLL. -/
theorem test_stDecode :
    after (·.regs.symQ) (step { at' .decode wA Ports.undriven.buf [.nop] with
      regs := { Regs.reset with state := .decode, rowQ := wA } })
      = some #v[.floating, .floating, .low, .floating, .low, .low, .high, .high, .low, .low, .low,
          .low] := by decide

/-- SQ-4, cycle 3: `sym_q` keeps its value. -/
theorem test_stDecode_rejects :
    after (fun t => (t.regs.state, t.regs.symQ)) (step { State.reset with
      regs := { Regs.reset with state := .decode, rowQ := 0x0DDE1FF#25 }, host := [.nop] })
      = some (.reject, Vector.replicate 12 .low) := by decide

/-- SQ-1 and SQ-5, cycle 4. -/
theorem test_stValidateFixed :
    seen (step (at' .validateFixed wA Ports.undriven.buf [.nop])) = some (.validateId, false, 0#5) ∧
    label (step (at' .validateFixed wX Ports.undriven.buf [.nop])) = some .fixDom := by decide

/-- PV-6: the fixed value is 56. -/
theorem test_stValidateFixed_value :
    label (step (at' .validateFixed 0x15DE07F#25 Ports.undriven.buf [.nop])) = some .fixVal := by decide

/-- SQ-1 and SQ-6, cycle 5. -/
theorem test_stValidateId :
    seen (step (at' .validateId wA Ports.undriven.buf [.nop])) = some (.emit, true, 5#5) ∧
    seen (step (at' .validateId 0x05DE1FF#25 Ports.undriven.buf [.nop])) = some (.reject, false, 0#5) := by
  decide

/-- SQ-1, cycle 6, and SQ-2, cycle 2: one cycle of `done`, then IDLE. -/
theorem test_stEmit_stReject :
    seen (step (at' .emit wA Ports.undriven.buf [.nop])) = some (.idle, false, 0#5) ∧
    seen (step (at' .reject wA Ports.undriven.buf [.nop])) = some (.idle, false, 0#5) := by decide

/-! ### The host lines -/

/-- A `.buf` line that no port can carry stops, by the name of the reason. -/
theorem test_buf_faults :
    stop (step { State.reset with host := [.buf ⟨4, [⟨8, 25, wA⟩]⟩] }) = some .noSuchSlot ∧
    stop (step { State.reset with host := [.buf ⟨16, []⟩] }) = some .countTooWide ∧
    stop (step { State.reset with host := [.buf ⟨4, [⟨0, 32, wA⟩]⟩] }) = some .lengthTooWide ∧
    stop (step { State.reset with host := [.buf ⟨4, [⟨0, 25, wA⟩, ⟨0, 25, wA⟩]⟩] })
      = some .slotListedTwice := by decide

/-- R84: a `.buf` line occupies no cycle, and its rows stand on the ports. -/
theorem test_buf :
    after (fun t => (t.cycle, t.ports.buf.count, t.ports.buf.len 3, t.ports.buf.len 4))
      (step { State.reset with host := [.buf ⟨4, four wA⟩] }) = some (0, 4, 25, 0) := by decide

/-- R85: WAITDONE ends in the first cycle with `done` = 1. -/
theorem test_waitdone :
    after (·.host) (step (at' .emit wA Ports.undriven.buf [.waitDone])) = some [] ∧
    after (·.host) (step (at' .validateId wA Ports.undriven.buf [.waitDone])) = some [.waitDone] := by
  decide

/-- The memory's canonical form: writing what an unlisted slot reads as removes the entry. -/
theorem test_memory_canonical :
    Memory.write [(1, ⟨25, wA⟩)] 1 Row.blank = [] ∧
    Memory.write [(1, ⟨25, wA⟩)] 0 ⟨25, wZ⟩ = [(0, ⟨25, wZ⟩), (1, ⟨25, wA⟩)] := by decide

/-! ### Witnesses: states and operands that meet the hypotheses of a statement -/

theorem witness_DecodeAndEncodeAgree :
    Instr.wellFormed (.rowAccept 0x1FFE1FF#25) = true ∧ Instr.wellFormed (.symNone 11) = true ∧
    decode .ctrl 3 = .ok (.cmdReset true) ∧ decode .row 0x15561FF = .ok (.rowAccept 0x15561FF#25) := by
  refine ⟨by decide, rfl, rfl, by decide⟩

theorem witness_EveryPatternHasItsOperation :
    Site.state ≠ .row ∧ 7 < 2 ^ Site.state.width ∧ ¬ 8 < 2 ^ Site.state.width ∧
    (0x1FFFFFF : Nat) < 2 ^ 25 ∧ BitVec.ofNat 25 0x1FFFFFF &&& 0x1557FFF#25 ≠ 0x15561FF#25 := by decide

theorem witness_DecodeRunsTheLaneOperations :
    (at' .decode 0x0DDE1FF#25 Ports.undriven.buf []).regs.state = .decode ∧
    (pairAt (at' .decode 0x0DDE1FF#25 Ports.undriven.buf []).regs.rowQ 0).toNat = 1 ∧
    (pairAt 0x15DE1FB#25 11).toNat = 1 ∧ decode (.pair 0) 1 = .ok (.symNone 0) := by
  refine ⟨rfl, by decide, by decide, rfl⟩

/-- Positions 10 and 23, one for each cause. -/
theorem witness_FixedFieldFlipsReject :
    (pv .msbFirst wA).1 = true ∧ (pv .lsbFirst 0x15561FF#25).1 = true ∧
    rowCause (flipPos wA 10) = .badSym ∧ rowCause (flipPos wA 23) = .fixDom := by decide

/-- The example row meets the first clause's hypotheses. -/
theorem witness_IdentifiersAreABijection :
    wA.getLsbD 0 = true ∧
    (∀ j : Fin 7, (lcsd (pairAt wA (fixIndex j))).sym = if j = 1 ∨ j = 2 then .high else .low) ∧
    ∀ i : Fin 5, (lcsd (pairAt wA (idIndex i))).sym = .low ∨
      (lcsd (pairAt wA (idIndex i))).sym = .floating := by decide

theorem witness_NoCauseExactlyOnAcceptance :
    rowCause wA = .none ∧ (pv .lsbFirst wA').1 = false := by decide

theorem witness_StoredBytesGiveRowPositions :
    (24 : Nat) < 25 ∧ rowPos (rowOfBytes 0#8 0#8 0#8 0x80#8) 24 = true ∧
    rowOfBytes 0#8 0#8 0#8 0x7f#8 = 0#25 := by decide

theorem witness_TheLowestQualifyingSlotIsSelected :
    (matcher cfg8 (bufferOfLine ⟨4, four wA⟩)).1 = true ∧
    hit cfg8 (bufferOfLine ⟨4, four wA⟩) 3 = true ∧
    (matcher cfg8 (bufferOfLine ⟨3, four wA⟩)).1 = false ∧ cfg8.wf := by decide

theorem witness_FewerThanFourRowsReject :
    effCount cfg8 (bufferOfLine ⟨3, four wA⟩) < 4 := by decide

/-- Slot 4 differs and is not present. -/
theorem witness_AbsentSlotsHaveNoEffect :
    let b := bufferOfLine ⟨4, four wA⟩
    let d := bufferOfLine ⟨4, four wA ++ [⟨4, 25, wZ⟩]⟩
    b ≠ d ∧ effCount cfg8 b = effCount cfg8 d ∧
      ∀ k < effCount cfg8 b, b.len k = d.len k ∧ b.word k = d.word k := by decide

/-- Slot 4 is present with length 24, and only its word differs. -/
theorem witness_RowsOfOtherLengthsHaveNoEffect :
    let b := bufferOfLine ⟨5, four wA ++ [⟨4, 24, wX⟩]⟩
    let d := bufferOfLine ⟨5, four wA ++ [⟨4, 26, wZ⟩]⟩
    b ≠ d ∧ effCount cfg8 b = effCount cfg8 d ∧
      ∀ k < effCount cfg8 b, (b.len k = 25 ↔ d.len k = 25) ∧ (b.len k = 25 → b.word k = d.word k) := by
  decide

theorem witness_IdleWaitsForStart : State.reset.regs.state = .idle := rfl

/-- Each branch of SELECT is met: a row taken, and the three causes. -/
theorem witness_SelectTakesTheRepeatedRow :
    (matcher cfg8 (bufferOfLine ⟨4, four wA⟩)).1 = true ∧
    selectCause cfg8 (bufferOfLine ⟨3, four wA⟩) = .rowCount ∧
    selectCause cfg8 (rowsOf 4 [(24, wA), (24, wA), (24, wA), (24, wA)]) = .noLen ∧
    selectCause cfg8 (rowsOf 4 [(25, wA), (25, wA), (25, wA), (25, wZ)]) = .noRepeat := by decide

theorem witness_CheckSyncTestsRowPositionTwentyFour :
    (at' .checkSync wA' Ports.undriven.buf []).regs.rowQ.getLsbD 0 = false := by decide

theorem witness_DecodeWritesAllSymbolsOrNone :
    (∃ i : Fin 12, pairAt (at' .decode 0x15DE1FB#25 Ports.undriven.buf []).regs.rowQ i = 0b01#2) ∧
    ¬ ∃ i : Fin 12, pairAt (at' .decode wA Ports.undriven.buf []).regs.rowQ i = 0b01#2 := by decide

/-- PV-4 for RJ_FIXDOM and PV-6 for RJ_FIXVAL. -/
theorem witness_ValidateFixedComparesWithFortyEight :
    (∀ i : Fin 12, (at' .validateFixed wX Ports.undriven.buf []).regs.symQ[i] ≠ .none) ∧
    (∃ j : Fin 7, (at' .validateFixed wX Ports.undriven.buf []).regs.symQ[fixIndex j] = .floating) ∧
    (∀ i : Fin 12, (at' .validateFixed 0x15DE07F#25 Ports.undriven.buf []).regs.symQ[i] ≠ .none) ∧
    (∀ j : Fin 7, (at' .validateFixed 0x15DE07F#25 Ports.undriven.buf []).regs.symQ[fixIndex j]
      ≠ .floating) ∧
    fixAsm (Vector.ofFn fun j : Fin 7 =>
      (at' .validateFixed 0x15DE07F#25 Ports.undriven.buf []).regs.symQ[fixIndex j] == .high) ≠ 48#7 := by
  decide

/-- One state for each branch: HIGH in symbol 0, and no HIGH. -/
theorem witness_ValidateIdEmitsTheIdentifier :
    (∀ i : Fin 12, (at' .validateId wA Ports.undriven.buf []).regs.symQ[i] ≠ .none) ∧
    (∀ i : Fin 12, (at' .validateId 0x05DE1FF#25 Ports.undriven.buf []).regs.symQ[i] ≠ .none) ∧
    (at' .validateId 0x05DE1FF#25 Ports.undriven.buf []).regs.symQ[idIndex 0] = .high := by decide

theorem witness_TerminalStatesReturnToIdle :
    (at' .reject wA Ports.undriven.buf []).regs.state = .reject ∧
    (at' .emit wA Ports.undriven.buf []).regs.state = .emit := ⟨rfl, rfl⟩

theorem witness_RejectionEntryKeepsTheDecodedRow :
    ∃ t, exec (stateInstr (at' .checkSync wA' Ports.undriven.buf []).regs.state)
      (at' .checkSync wA' Ports.undriven.buf []) = .next t ∧ t.regs.state = .reject :=
  ⟨_, rfl, by decide⟩

theorem witness_CommandsInIdle : (at' .idle wA Ports.undriven.buf []).regs.state = .idle := rfl

theorem witness_StartIsLostOutsideIdle : (at' .emit wA Ports.undriven.buf []).regs.state ≠ .idle := by
  decide

/-- `rst` = 1 for the first clause, `rst` = 0 for both. -/
theorem witness_StepRunsTheDecodedOperation :
    (at' .emit wA Ports.undriven.buf [.cycle 0b11#2]).host = [.cycle 0b11#2] ∧
    decode .ctrl (0b11#2).toNat = .ok (.cmdReset true) ∧ (0b01#2).getLsbD 1 = false ∧
    decode .state (at' .emit wA Ports.undriven.buf [.cycle 0b01#2]).regs.state.code.toNat = .ok .stEmit := by
  refine ⟨rfl, rfl, rfl, rfl⟩

/-- A pair at the last lane, and a row word that does not match, at the row port only. -/
theorem witness_StepRunsThePresentedWord :
    ({ State.reset with host := [.present (.pair 11) 1] } : State).host = [.present (.pair 11) 1] ∧
    decode (BlockSite.pair 11).site 1 = .ok (.symNone 11) ∧
    decode BlockSite.row.site 0x1FFFFFF = .error .rowRejected ∧ (0x1FFFFFF : Nat) < 2 ^ 25 :=
  ⟨rfl, rfl, by decide, by decide⟩

/-- A buffer in which a slot qualifies, and one in which none does. -/
theorem witness_TheStandaloneMatcherAnswers :
    (at' .idle 0#25 (bufferOfLine ⟨4, four wA⟩) [.matchRows]).host = [.matchRows] ∧
    hit cfg8 (bufferOfLine ⟨4, four wA⟩) 0 = true ∧
    (matcher cfg8 (bufferOfLine ⟨3, four wA⟩)).1 = false := by decide

theorem witness_BufferDirectiveDrivesThePorts :
    ({ State.reset with host := [.buf ⟨15, four wA⟩] } : State).host = [.buf ⟨15, four wA⟩] ∧
    (BufLine.mk 15 (four wA)).wellFormed State.reset.cfg = true ∧
    ∀ e ∈ four wA, e.slot ≠ 4 := by decide

theorem witness_OnlyIllFormedLinesStop :
    (∀ l ∈ (at' .idle wA Ports.undriven.buf [.nop]).host.head?,
      l.wellFormed (at' .idle wA Ports.undriven.buf [.nop]).cfg = true) ∧
    ¬ ∀ l ∈ (at' .idle wA Ports.undriven.buf [.present .sync 2]).host.head?,
      l.wellFormed (at' .idle wA Ports.undriven.buf [.present .sync 2]).cfg = true := by decide

theorem witness_OneResetCycleIsEnough :
    (at' .validateId wA Ports.undriven.buf [.cycle 0b11#2]).host = [.cycle 0b11#2] ∧
    (0b11#2).getLsbD 1 = true ∧ (0b10#2).getLsbD 1 = true := ⟨rfl, rfl, rfl⟩

/-- The reset state meets the invariant, and a step of it goes on: driven by a START line. -/
theorem witness_EveryStepKeepsTheInvariant :
    ({ State.reset with host := [.start] } : State).Inv ∧
    ∃ t, step { State.reset with host := [.start] } = .next t := by
  refine ⟨⟨⟨by decide, by decide, by decide⟩, by decide, by decide, trivial⟩, _, rfl⟩

theorem witness_NoOperationWritesTheBuffer :
    (∃ t, exec .stSelect (at' .select 0#25 (bufferOfLine ⟨4, four wA⟩) []) = .next t) ∧
    (encode .stSelect).1 ≠ .ctrl ∧
    ∃ t, step (at' .idle wA Ports.undriven.buf [.buf ⟨4, four wA⟩]) = .next t := by
  refine ⟨⟨_, rfl⟩, by decide, _, rfl⟩

/-- In DECODE, SYM_NONE takes the rejection. -/
theorem witness_CombinationalOperationsKeepRegisters :
    isClocked (.symNone 0) = false ∧
    ∃ t, exec (.symNone 0) (at' .decode 0x0DDE1FF#25 Ports.undriven.buf []) = .next t ∧
      t.regs.state = .reject := ⟨rfl, _, rfl, by decide⟩

/-- One state for each clause: `row_q` written, `sym_q` written, the result written. -/
theorem witness_StateOperationsWriteOnlyTheirRegisters :
    (∃ t, exec (stateInstr .select) (at' .select 0#25 (bufferOfLine ⟨4, four wA⟩) []) = .next t ∧
      t.regs.rowQ ≠ 0#25) ∧
    (∃ t, exec (stateInstr .decode) { State.reset with
        regs := { Regs.reset with state := .decode, rowQ := wA } } = .next t ∧
      t.regs.symQ ≠ Regs.reset.symQ) ∧
    (∃ t, exec (stateInstr .validateId) (at' .validateId wA Ports.undriven.buf []) = .next t ∧
      (t.regs.resStatus, t.regs.resId) ≠ (false, 0#5)) := by
  refine ⟨⟨_, rfl, by decide⟩, ⟨_, rfl, by decide⟩, _, rfl, by decide⟩

theorem witness_ResultIsHeldUntilTheNextEnd :
    ∃ t, step (at' .validateId wA Ports.undriven.buf [.nop]) = .next t ∧
      (t.regs.status, t.regs.id) ≠
        ((at' .validateId wA Ports.undriven.buf [.nop]).regs.status,
          (at' .validateId wA Ports.undriven.buf [.nop]).regs.id) := ⟨_, rfl, by decide⟩

theorem witness_IdleLeavesOnlyOnStart :
    (at' .idle wA Ports.undriven.buf [.start]).regs.state = .idle ∧
    ∃ t, step (at' .idle wA Ports.undriven.buf [.start]) = .next t ∧ t.regs.state = .select :=
  ⟨rfl, _, rfl, by decide⟩

theorem witness_DoneLastsOneCycle :
    (at' .reject wA Ports.undriven.buf [.start]).host = [.cycle 0b01#2] ∧
    (at' .reject wA Ports.undriven.buf [.start]).regs.done = true := ⟨rfl, rfl⟩

theorem witness_BufferIsReadOnlyInSelect :
    (at' .decode wA Ports.undriven.buf [.nop]).host = [.cycle 0b00#2] ∧
    (at' .decode wA Ports.undriven.buf [.nop]).regs.state ≠ .select ∧
    ∃ t, step (at' .decode wA Ports.undriven.buf [.nop]) = .next t :=
  ⟨rfl, by decide, _, rfl⟩

/-- A core in SELECT whose host changes the buffer and tries a sub-block between the cycles, goes on with
WAITDONE, and resets after the terminal edge. -/
def coreS : State := at' .select 0#25 (bufferOfLine ⟨4, four wA⟩)
  [.nop, .buf ⟨0, []⟩, .start, .present .sync 0, .waitDone, .rst]

/-- A core in SELECT with another row kept and a host that drives other start bits and no more lines than
it needs; its fourth row is not there, so that it rejects at E1. -/
def coreU : State := at' .select wX (bufferOfLine ⟨3, four wA⟩) [.cycle 0b01#2, .rst]

/-- The decode of `coreS` ends at E5, after its seventh step; the hypotheses hold up to there. -/
theorem witness_SequencerComputesDecode :
    coreS.regs.state = .select ∧ after (·.cycle) (step coreS) = some (coreS.cycle + 1) ∧
    (∀ l ∈ coreS.host, l.wellFormed coreS.cfg = true) ∧ rstLow 7 coreS = true ∧
    after (·.cycle) (core.run 7 coreS) = some (coreS.cycle + 5) ∧
    after (·.ports.buf) (step coreS) = some coreS.ports.buf ∧
    causeEdge (decodeCause coreS.cfg coreS.ports.buf) = 5 := by decide

/-- The other end of the range: the decode of `coreU` ends at E1, after its first step. -/
theorem witness_SequencerComputesDecode_E1 :
    coreU.regs.state = .select ∧ after (·.cycle) (step coreU) = some (coreU.cycle + 1) ∧
    rstLow 1 coreU = true ∧ after (·.ports.buf) (step coreU) = some coreU.ports.buf ∧
    causeEdge (decodeCause coreU.cfg coreU.ports.buf) = 1 := by decide

/-- A decode that ends in EMIT, and one that SELECT ends. -/
theorem witness_TheFirstCauseFoundIsRecorded :
    rstLow (6 + 1) coreS = true ∧ after (·.cycle) (core.run 6 coreS) = some (coreS.cycle + 4) ∧
    after (·.cycle) (core.run 7 coreS) = some (coreS.cycle + 5) ∧
    decodeCause coreS.cfg coreS.ports.buf = .none ∧
    rstLow (0 + 1) coreU = true ∧ decodeCause coreU.cfg coreU.ports.buf = .rowCount := by decide

/-- `coreS` with other registers and another host sees the same buffer and ends at the same edge. -/
def coreT : State := at' .select wX (bufferOfLine ⟨4, four wA⟩) [.start, .waitDone, .rst]

theorem witness_DecodesAreIndependent :
    coreS.regs.state = .select ∧ coreT.regs.state = .select ∧ coreS.cfg = coreT.cfg ∧
    coreS.regs ≠ coreT.regs ∧ (∀ l ∈ coreS.host ++ coreT.host, l.wellFormed coreS.cfg = true) ∧
    after (·.cycle) (step coreS) = some (coreS.cycle + 1) ∧
    after (·.cycle) (step coreT) = some (coreT.cycle + 1) ∧
    after (·.ports.buf) (step coreS) = after (·.ports.buf) (step coreT) ∧
    rstLow 7 coreS = true ∧ rstLow 5 coreT = true ∧
    after (·.cycle) (core.run 7 coreS) = some (coreS.cycle + 5) ∧
    after (·.cycle) (core.run 5 coreT) = some (coreT.cycle + 5) := by decide

theorem witness_DecodeLineCompletes :
    (at' .idle 0#25 (bufferOfLine ⟨4, four wA⟩) [.decode]).regs.state = .idle ∧
    (at' .idle 0#25 (bufferOfLine ⟨4, four wA⟩) [.decode]).host = [.decode] := ⟨rfl, rfl⟩

theorem witness_ResetAbandonsADecode :
    (at' .decode wA Ports.undriven.buf [.rst]).regs.busy = true ∧
    (at' .decode wA Ports.undriven.buf [.rst]).host = [.cycle 0b10#2] ∧ (0b10#2).getLsbD 1 = true :=
  ⟨rfl, rfl, rfl⟩

end Sys2Proof.Machine.Tests
end

-- Proofs: what the machine keeps (10_state.md)
section
/-! PROOFS of the family 10_state: what the machine keeps from one step to the next. First the facts about
the model's functions that several statements need, then the statements. -/

namespace Sys2Proof.Machine

/-! ### The invariant, clause by clause -/

/-- The part of the invariant about a decode reads the registers and the configuration only. -/
theorem State.decodeInv_congr {s t : State} (hc : t.cfg = s.cfg) (hr : t.regs = s.regs) :
    t.decodeInv ↔ s.decodeInv := by
  rw [State.decodeInv, State.decodeInv, hc, hr]

theorem State.decodeInv_of_regs_reset {s : State} (hr : s.regs = Regs.reset) : s.decodeInv := by
  rw [State.decodeInv, hr]
  exact ⟨fun _ => rfl, by decide, trivial⟩

theorem Buffer.wf_undriven (c : Config) : Buffer.wf c Ports.undriven.buf := by
  refine ⟨Nat.two_pow_pos _, by decide, ?_⟩
  intro e he
  cases he

/-- The two checks of VALIDATE_FIXED are the packet_validator's check of the fixed field
(42_packet_validator.md R150, R152). -/
theorem fixOk_of_checks {v : Vector Sym 12} (hv : ∀ i : Fin 12, v[i] ≠ .none)
    (hd : anyFixFloating v = false) (hf : fixAsm (fixBits v) = kFixedValue) : fixOk v = true := by
  simp [fixOk, fixDom_eq_not_anyFixFloating hv, hd, hf]

/-- The checks of the sequencer, all passed, are the packet_validator's acceptance
(42_packet_validator.md R155). -/
theorem pv_of_checks {o : IdOrder} {w : RowWord} (hs : syncOk w = true)
    (ha : allOk (rowLanes w) = true) (hf : fixOk (laneSyms (rowLanes w)) = true)
    (hi : anyIdHigh (laneSyms (rowLanes w)) = false) :
    pv o w = (true, idAsm o (idBits (laneSyms (rowLanes w)))) := by
  have hd : idDom (laneSyms (rowLanes w)) = true := by
    rw [idDom_eq_not_anyIdHigh (laneSyms_ne_none ha), hi]; rfl
  simp [pv, pvOk, hs, ha, hf, hd]

/-- The rule of each state establishes what the next state holds: one case per transition. -/
theorem stateRule_decodeInv {s : State} (h : s.decodeInv) : (stateRule s).decodeInv := by
  obtain ⟨hid, hsym, hst⟩ := h
  have hcfg : (stateRule s).cfg = s.cfg := (stateRule_frame s).1
  rcases stateRule_cases s with ⟨-, -, hr⟩ | ⟨-, -, hr⟩ | ⟨-, -, hr⟩ | ⟨-, hsync, hr⟩ | ⟨hs, hall, hr⟩ |
    ⟨hs, hflo, hfix, hr⟩ | ⟨hs, hhigh, -, hr⟩ | ⟨-, hr⟩ | ⟨-, hr⟩
  · rw [hr]; exact ⟨hid, hsym, hst⟩
  · rw [State.decodeInv, hr]; exact ⟨hid, hsym, trivial⟩
  · rw [State.decodeInv, hr]; exact ⟨hid, hsym, trivial⟩
  · rw [State.decodeInv, hr]; exact ⟨hid, hsym, hsync⟩
  · rw [hs] at hst
    rw [State.decodeInv, hr]
    exact ⟨hid, laneSyms_ne_none hall, hst, hall, rfl⟩
  · rw [hs] at hst
    obtain ⟨hsync, hall, hq⟩ := hst
    rw [State.decodeInv, hr]
    exact ⟨hid, hsym, hsync, hall, hq, fixOk_of_checks hsym hflo hfix⟩
  · rw [hs] at hst
    obtain ⟨hsync, hall, hq, hfix⟩ := hst
    rw [State.decodeInv, hr, hcfg]
    refine ⟨(nomatch ·), hsym, ?_, rfl⟩
    rw [hq] at hhigh hfix ⊢
    exact pv_of_checks hsync hall hfix hhigh
  · rw [State.decodeInv, hr]; exact ⟨fun _ => rfl, hsym, rfl⟩
  · rw [State.decodeInv, hr]; exact ⟨hid, hsym, trivial⟩

/-- A clock edge, of a reset or of the current state's rule, keeps the invariant. -/
theorem edgeOf_inv {d : State} (h : d.Inv) : (edgeOf d).Inv := by
  obtain ⟨hbuf, hdec⟩ := h
  refine ⟨by rwa [(edgeOf_frame d).1, (edgeOf_frame d).2.1], ?_⟩
  unfold edgeOf
  split
  · exact State.decodeInv_of_regs_reset rfl
  · exact stateRule_decodeInv hdec

/-! ### What an operation can do -/

/-- No operation stops the machine (60_exceptions.md R201). -/
theorem exec_completes (i : Instr) (s : State) : ∃ t, exec i s = .next t := by
  cases i <;> exact ⟨_, rfl⟩

/-- A combinational operation changes signals only, and may then reject the row. -/
theorem exec_combinational_cases {i : Instr} {s t : State} (hi : isClocked i = false)
    (h : exec i s = .next t) :
    ∃ n : Nets, t = { s with nets := n } ∨ ∃ c, t = State.rejectRow c { s with nets := n } := by
  cases i with
  | symLow | symHigh | symFloating | idBit1 | idBit0 | fixBit0 | fixBit1 | syncOk | rowAccept =>
    cases h
    exact ⟨_, .inl rfl⟩
  | symNone | idRejHigh | idRejNone | fixRejFloating | fixRejNone | syncFail =>
    cases h
    exact ⟨_, .inr ⟨_, rfl⟩⟩
  | _ => cases hi

/-- REJECT and EMIT last one clock edge, whether it resets or not (43_core_sequencer.md R182, R183). -/
theorem edgeOf_state_of_done {d : State} (h : d.regs.done = true) : (edgeOf d).regs.state = .idle := by
  have hd : d.regs.state = .reject ∨ d.regs.state = .emit := by simpa [Regs.done] using h
  unfold edgeOf
  split
  · rfl
  · rcases hd with hd | hd <;> simp [stateRule_eq, ruleRegs, hd]

/-! ### The signals that are no registers -/

/-- A clock edge makes the same of every value of the signals, those apart. -/
theorem forgetNets_edgeOf (d : State) (n : Nets) :
    forgetNets (.next (edgeOf { d with nets := n })) = forgetNets (.next (edgeOf d)) := by
  unfold edgeOf
  split
  · rfl
  · simp only [forgetNets, stateRule_eq]

/-- A step that makes a clock edge answers the same, the signals apart, when its driven state differs in the
signals only. -/
theorem forgetNets_step_edge {s t d : State} (n : Nets) (hs : step s = .next (edgeOf d))
    (ht : step t = .next (edgeOf { d with nets := n })) :
    forgetNets (step t) = forgetNets (step s) := by
  rw [hs, ht, forgetNets_edgeOf]

/-- What a settled operation leaves, the signals apart, is the state it settles in. -/
theorem forgetNets_settled_exec (i : Instr) (s u : State) :
    forgetNets (settled s (exec i u)) = forgetNets (.next s) := by
  obtain ⟨t, ht⟩ := exec_completes i u
  rw [ht]
  rfl

/-! ### The repetition_matcher's search -/

theorem hit_lt_nrowsMax {c : Config} {b : Buffer} {k : Nat} (h : hit c b k = true) : k < c.nrowsMax :=
  (cand_lt (hit_cand h)).1.trans_le (Nat.min_le_right _ _)

/-- What the matcher answers: the lowest qualifying slot, or that no slot qualifies
(40_repetition_matcher.md R106, R107). -/
theorem matcher_cases (c : Config) (b : Buffer) :
    (∃ k, matcher c b = (true, k) ∧ hit c b k = true ∧ ∀ j, hit c b j = true → k ≤ j) ∨
    (matcher c b = (false, 0) ∧ ∀ j, hit c b j = false) := by
  unfold matcher
  split
  next k hk =>
    obtain ⟨hhit, -, hmin⟩ := List.find?_range_eq_some.1 hk
    refine .inl ⟨k, rfl, hhit, fun j hj => Nat.le_of_not_lt fun hlt => ?_⟩
    simpa [hj] using hmin j hlt
  next hnone =>
    refine .inr ⟨rfl, fun j => Bool.eq_false_iff.2 fun hj => ?_⟩
    exact List.find?_eq_none.1 hnone j (List.mem_range.2 (hit_lt_nrowsMax hj)) hj

/-! ### The words on a standalone sub-block -/

/-- A row word that decodes decodes to ROW_ACCEPT of itself. -/
theorem decodeRow_eq_ok {w : Nat} {i : Instr} (h : decodeRow w = .ok i) :
    w < 2 ^ 25 ∧ i = .rowAccept (BitVec.ofNat 25 w) := by
  unfold decodeRow at h
  split at h
  next hw =>
    split at h
    · cases h; exact ⟨hw, rfl⟩
    · cases h
  next => cases h

theorem presented_row {w : Nat} (hw : w < 2 ^ 25) :
    presented .row w = some (.rowAccept (BitVec.ofNat 25 w)) := if_pos hw

/-- A word that decodes at a sub-block's site is evaluated there as what it decodes to. -/
theorem presented_of_decode {b : BlockSite} {w : Nat} {i : Instr} (h : decode b.site w = .ok i) :
    presented b w = some i := by
  cases b with
  | row =>
    obtain ⟨hw, rfl⟩ := decodeRow_eq_ok h
    exact presented_row hw
  | pair k => exact congrArg Except.toOption h
  | idPair k => exact congrArg Except.toOption h
  | fixPair j => exact congrArg Except.toOption h
  | sync => exact congrArg Except.toOption h

/-! ### The statements -/

/-- Settles O44: undriven ports can be carried, and the reset registers hold every clause. -/
theorem invariantHoldsAtReset : Obligations.InvariantHoldsAtReset :=
  fun c => ⟨Buffer.wf_undriven c, State.decodeInv_of_regs_reset rfl⟩

/-- Settles O45: a step is a clock edge, which keeps the invariant, or changes no register and leaves on the
ports a buffer that they can carry. -/
theorem everyStepKeepsTheInvariant : Obligations.EveryStepKeepsTheInvariant := by
  intro s t ⟨hbuf, hdec⟩ h
  rcases step_cases h with ⟨d, hc, hr, -, -, hb, rfl⟩ | ⟨hc, hr, -, hp⟩
  · refine edgeOf_inv ⟨?_, (State.decodeInv_congr hc hr).2 hdec⟩
    rcases hb with hb | hb <;> rw [hb, hc]
    · exact hbuf
    · exact freeBuffer_wf _ _
  · refine ⟨?_, (State.decodeInv_congr hc hr).2 hdec⟩
    rcases hp with hp | ⟨b, rest, -, hw, hp⟩ <;> rw [hp, hc]
    · exact hbuf
    · exact bufferOfLine_wf hw

/-- Settles O47: only the rejection of a row reaches the registers. -/
theorem combinationalOperationsKeepRegisters : Obligations.CombinationalOperationsKeepRegisters := by
  intro i s t hi h
  obtain ⟨n, rfl | ⟨c, rfl⟩⟩ := exec_combinational_cases hi h
  · exact ⟨rfl, rfl, .inl rfl⟩
  · rw [State.rejectRow_regs, State.rejectRow_nets]
    split
    next hcause => exact ⟨rfl, rfl, .inr ⟨rfl, hcause⟩⟩
    next => exact ⟨rfl, rfl, .inl rfl⟩

/-- Settles O48, one case per transition of the state machine. -/
theorem stateOperationsWriteOnlyTheirRegisters : Obligations.StateOperationsWriteOnlyTheirRegisters := by
  intro s t h
  rw [exec_stateInstr] at h
  cases h
  rcases stateRule_cases s with ⟨hs, -, hr⟩ | ⟨hs, -, hr⟩ | ⟨hs, -, hr⟩ | ⟨hs, -, hr⟩ | ⟨hs, -, hr⟩ |
    ⟨hs, -, -, hr⟩ | ⟨hs, -, -, hr⟩ | ⟨-, hr⟩ | ⟨-, hr⟩
  all_goals simp [*, Regs.done]

/-- Settles O51: `busy` and `done` are read off the state that the edge enters, IDLE. -/
theorem doneLastsOneCycle : Obligations.DoneLastsOneCycle := by
  intro s c rest hh hdone
  have hidle : (edgeOf (driveCtrl c (s.setHost rest))).regs.state = .idle := edgeOf_state_of_done hdone
  exact ⟨_, step_cycle hh, hidle, by simp [Regs.done, hidle], by simp [Regs.busy, hidle]⟩

/-- Settles O53, by the form of the host's next line. -/
theorem signalsNeverInfluenceTheCore : Obligations.SignalsNeverInfluenceTheCore := by
  rintro ⟨cfg, regs, ports, nets, host, cycle⟩ n
  cases host with
  | nil => exact forgetNets_step_edge n (step_nil rfl) (step_nil rfl)
  | cons l rest =>
    cases l with
    | cycle c => exact forgetNets_step_edge n (step_cycle rfl) (step_cycle rfl)
    | waitDone => exact forgetNets_step_edge n (step_waitDone rfl) (step_waitDone rfl)
    | decode => exact forgetNets_step_edge n (step_decode rfl) (step_decode rfl)
    | reset => exact forgetNets_step_edge n (step_reset rfl) (step_reset rfl)
    | buf b =>
      rw [step_buf rfl, step_buf rfl]
      cases bufFault cfg b <;> rfl
    | present b w =>
      rw [step_present rfl, step_present rfl]
      cases presented b w with
      | none => rfl
      | some i => exact (forgetNets_settled_exec i _ _).trans (forgetNets_settled_exec i _ _).symm
    | matchRows =>
      rw [step_matchRows rfl, step_matchRows rfl]
      rfl

/-- Settles O59: the line's answer is the matcher's. -/
theorem theStandaloneMatcherAnswers : Obligations.TheStandaloneMatcherAnswers := by
  intro s rest hh
  refine ⟨_, _, step_matchRows hh, ?_⟩
  rcases matcher_cases s.cfg s.ports.buf with ⟨k, hm, hhit, hmin⟩ | ⟨hm, hnone⟩
  · rw [hm]
    exact ⟨⟨fun _ => ⟨k, hhit⟩, fun _ => rfl⟩, fun _ => ⟨hhit, hmin⟩, (nomatch ·)⟩
  · rw [hm]
    refine ⟨⟨(nomatch ·), ?_⟩, (nomatch ·), fun _ => rfl⟩
    rintro ⟨j, hj⟩
    exact absurd hj (by simp [hnone j])

/-- Settles O38: both ways of naming the operation give the one that the sub-block evaluates. -/
theorem stepRunsThePresentedWord : Obligations.StepRunsThePresentedWord := by
  intro s b w rest i hh hop
  have hp : presented b w = some i := by
    rcases hop with hdec | ⟨rfl, hw, rfl⟩
    · exact presented_of_decode hdec
    · exact presented_row hw
  obtain ⟨u, hu⟩ := exec_completes i (s.setHost rest)
  refine ⟨u, hu, ?_⟩
  rw [step_present hh, hp]
  simp only [hu]
  rfl

end Sys2Proof.Machine
end

-- Proofs: the buffer on the ports (20_memory.md)
section
/-! PROOFS of the family 20_memory: how stored bytes become row positions, which parts of the buffer a
decode can see, and that the machine neither writes the buffer nor reads it outside SELECT. -/

namespace Sys2Proof.Machine

/-! ### Rows stored as bytes -/

/-- A presented row is the top 25 of the 32 stored bits, row position `p` at bit `31 - p`. -/
theorem rowPos_rowOfBytes (b0 b1 b2 b3 : Byte) {p : Nat} (hp : p < 25) :
    rowPos (rowOfBytes b0 b1 b2 b3) p = (b0 ++ b1 ++ b2 ++ b3 : BitVec 32).getLsbD (31 - p) := by
  have hbit : 7 + (24 - p) = 31 - p := by omega
  have hlow : 24 - p < 25 := by omega
  simp only [rowPos, rowOfBytes, BitVec.getLsbD_setWidth, BitVec.getLsbD_ushiftRight, hbit, hp, hlow,
    decide_true, Bool.true_and]

/-! ### What a decode sees of the buffer -/

/-- The two buffers have the same effective count, the same present rows of 25 bits, and the same words in
those rows. Whatever else they hold, the matcher cannot tell them apart (20_memory.md R52, R55). -/
def SameCandidates (c : Config) (b d : Buffer) : Prop :=
  effCount c b = effCount c d ∧ (∀ k, cand c b k = cand c d k) ∧
    ∀ k, cand c b k = true → b.word k = d.word k

theorem sameCandidates_of_present {c : Config} {b d : Buffer} (hn : effCount c b = effCount c d)
    (h : ∀ k < effCount c b, (b.len k = 25 ↔ d.len k = 25) ∧ (b.len k = 25 → b.word k = d.word k)) :
    SameCandidates c b d := by
  refine ⟨hn, fun k => ?_, fun k hk => ?_⟩
  · rw [Bool.eq_iff_iff]
    by_cases hk : k < effCount c b
    · simp [cand, ← hn, hk, (h k hk).1]
    · simp [cand, ← hn, hk]
  · obtain ⟨hlt, hlen⟩ := cand_lt hk
    exact (h k hlt).2 hlen

section
variable {c : Config} {b d : Buffer} (h : SameCandidates c b d)
include h

theorem rowEq_of_sameCandidates (j k : Nat) : rowEq c b j k = rowEq c d j k := by
  obtain ⟨-, hcand, hword⟩ := h
  unfold rowEq
  rw [← hcand j, ← hcand k]
  by_cases hj : cand c b j = true
  · by_cases hk : cand c b k = true
    · rw [hword j hj, hword k hk]
    · simp [hk]
  · simp [hj]

theorem hit_of_sameCandidates (k : Nat) : hit c b k = hit c d k := by
  have hocc : occurrences c b k = occurrences c d k := by
    simp only [occurrences, rowEq_of_sameCandidates h]
  rw [hit, hit, h.1, h.2.1 k, hocc]

theorem matcher_of_sameCandidates : matcher c b = matcher c d := by
  simp only [matcher, hit_of_sameCandidates h]

theorem selectCause_of_sameCandidates : selectCause c b = selectCause c d := by
  simp only [selectCause, h.1, h.2.1]

/-- The selected slot is a candidate, so its word is the same in both buffers. -/
theorem word_of_sameCandidates (hf : (matcher c b).1 = true) :
    b.word (matcher c b).2 = d.word (matcher c b).2 := by
  rcases matcher_cases c b with ⟨k, hm, hhit, -⟩ | ⟨hm, -⟩
  · rw [hm]
    exact h.2.2 k (hit_cand hhit)
  · simp [hm] at hf

theorem decodeBuffer_of_sameCandidates : decodeBuffer c b = decodeBuffer c d := by
  unfold decodeBuffer
  rw [← matcher_of_sameCandidates h]
  split
  next hf => rw [word_of_sameCandidates h hf]
  next => rfl

theorem decodeCause_of_sameCandidates : decodeCause c b = decodeCause c d := by
  unfold decodeCause
  rw [← matcher_of_sameCandidates h]
  split
  next hf => rw [word_of_sameCandidates h hf]
  next => exact selectCause_of_sameCandidates h

end

/-! ### What an operation writes -/

/-- Every operation is combinational, the rule of a state, or a command (30_encoding.md R70). -/
theorem instr_cases (i : Instr) :
    isClocked i = false ∨ (∃ st, i = stateInstr st) ∨ (encode i).1 = .ctrl := by
  cases i with
  | cmdReset | cmdStart | cmdNop => exact .inr (.inr rfl)
  | stIdle => exact .inr (.inl ⟨.idle, rfl⟩)
  | stSelect => exact .inr (.inl ⟨.select, rfl⟩)
  | stCheckSync => exact .inr (.inl ⟨.checkSync, rfl⟩)
  | stDecode => exact .inr (.inl ⟨.decode, rfl⟩)
  | stValidateFixed => exact .inr (.inl ⟨.validateFixed, rfl⟩)
  | stValidateId => exact .inr (.inl ⟨.validateId, rfl⟩)
  | stReject => exact .inr (.inl ⟨.reject, rfl⟩)
  | stEmit => exact .inr (.inl ⟨.emit, rfl⟩)
  | _ => exact .inl rfl

/-- A STATE operation changes registers and signals only, in whatever state it runs. -/
theorem exec_stateInstr_writes {st : SeqState} {s t : State} (h : exec (stateInstr st) s = .next t) :
    ∃ (r : Regs) (n : Nets), t = { s with regs := r, nets := n } := by
  cases st with
  | idle => cases h; unfold ruleIdle; split <;> exact ⟨_, _, rfl⟩
  | select => cases h; unfold ruleSelect; dsimp only; split <;> exact ⟨_, _, rfl⟩
  | checkSync => cases h; unfold ruleCheckSync; dsimp only; split <;> exact ⟨_, _, rfl⟩
  | decode => cases h; unfold ruleDecode; dsimp only; split <;> exact ⟨_, _, rfl⟩
  | validateFixed =>
    cases h; unfold ruleValidateFixed; dsimp only
    split
    · exact ⟨_, _, rfl⟩
    · split <;> exact ⟨_, _, rfl⟩
  | validateId => cases h; unfold ruleValidateId; dsimp only; split <;> exact ⟨_, _, rfl⟩
  | reject | emit => cases h; exact ⟨_, _, rfl⟩

/-- An operation that is no command changes registers and signals only. -/
theorem exec_writes_of_not_ctrl {i : Instr} {s t : State} (hi : (encode i).1 ≠ .ctrl)
    (h : exec i s = .next t) : ∃ (r : Regs) (n : Nets), t = { s with regs := r, nets := n } := by
  rcases instr_cases i with hcomb | ⟨st, rfl⟩ | hctrl
  · obtain ⟨n, rfl | ⟨c, rfl⟩⟩ := exec_combinational_cases hcomb h
    · exact ⟨_, n, rfl⟩
    · exact ⟨_, _, State.rejectRow_eq c _⟩
  · exact exec_stateInstr_writes h
  · exact absurd hctrl hi

/-- A command drives the control ports and makes the clock edge (43_core_sequencer.md R173 to R175). -/
theorem exec_of_ctrl {i : Instr} (hi : (encode i).1 = .ctrl) (s : State) :
    ∃ rst start, exec i s = .next (edgeOf (s.setCtrl rst start)) := by
  cases i with
  | cmdReset start => exact ⟨true, start, rfl⟩
  | cmdStart => exact ⟨false, true, rfl⟩
  | cmdNop => exact ⟨false, false, rfl⟩
  | _ => cases hi

/-! ### The buffer outside SELECT -/

theorem ruleRegs_buf_of_ne_select {r : Regs} (hr : r.state ≠ .select) (c : Config) (p : Ports)
    (b : Buffer) : ruleRegs c { p with buf := b } r = ruleRegs c p r := by
  unfold ruleRegs
  cases hs : r.state with
  | select => exact absurd hs hr
  | _ => rfl

theorem ruleNets_buf_of_ne_select {r : Regs} (hr : r.state ≠ .select) (c : Config) (p : Ports)
    (b : Buffer) (n : Nets) : ruleNets c { p with buf := b } r n = ruleNets c p r n := by
  unfold ruleNets
  cases hs : r.state with
  | select => exact absurd hs hr
  | _ => rfl

/-- Outside SELECT a clock edge carries any buffer on the ports along unread. -/
theorem edgeOf_setBuffer {d : State} (hd : d.regs.state ≠ .select) (b : Buffer) :
    edgeOf (d.setBuffer b) = (edgeOf d).setBuffer b := by
  have hrule : stateRule (d.setBuffer b) = (stateRule d).setBuffer b := by
    simp only [stateRule_eq, State.setBuffer, ruleRegs_buf_of_ne_select hd, ruleNets_buf_of_ne_select hd]
  unfold edgeOf
  rw [hrule, apply_ite (State.setBuffer b)]
  rfl

/-! ### The statements -/

/-- Settles O18: position `p` is bit `31 - p` of the 32 stored bits, which lies in byte `p / 8`. -/
theorem storedBytesGiveRowPositions : Obligations.StoredBytesGiveRowPositions := by
  refine ⟨fun b0 b1 b2 b3 p hp => ?_, by decide⟩
  rw [rowPos_rowOfBytes b0 b1 b2 b3 hp, BitVec.getLsbD_append, BitVec.getLsbD_append,
    BitVec.getLsbD_append]
  split_ifs <;> congr 1 <;> omega

/-- Settles O23: buffers that agree on the present slots have the same candidates. -/
theorem absentSlotsHaveNoEffect : Obligations.AbsentSlotsHaveNoEffect := by
  intro c b d hn h
  have hsame : SameCandidates c b d := sameCandidates_of_present hn fun k hk => by
    obtain ⟨hlen, hword⟩ := h k hk
    exact ⟨by rw [hlen], fun _ => hword⟩
  exact ⟨matcher_of_sameCandidates hsame, decodeBuffer_of_sameCandidates hsame,
    decodeCause_of_sameCandidates hsame⟩

/-- Settles O24: only rows of 25 bits are candidates. -/
theorem rowsOfOtherLengthsHaveNoEffect : Obligations.RowsOfOtherLengthsHaveNoEffect := by
  intro c b d hn h
  have hsame := sameCandidates_of_present hn h
  exact ⟨decodeBuffer_of_sameCandidates hsame, decodeCause_of_sameCandidates hsame⟩

/-- Settles O46: a command drives the control ports and makes a clock edge; every other operation changes
registers and signals only. -/
theorem noOperationWritesTheBuffer : Obligations.NoOperationWritesTheBuffer := by
  refine ⟨fun i s t h => ?_, fun s t => step_cfg⟩
  by_cases hi : (encode i).1 = .ctrl
  · obtain ⟨rst, start, he⟩ := exec_of_ctrl hi s
    rw [he] at h
    cases h
    obtain ⟨hcfg, hbuf, hhost, hcycle⟩ := edgeOf_frame (s.setCtrl rst start)
    exact ⟨hbuf, hcfg, hhost, hcycle, fun hne => absurd hi hne⟩
  · obtain ⟨r, n, rfl⟩ := exec_writes_of_not_ctrl hi h
    exact ⟨rfl, rfl, rfl, rfl, fun _ => rfl⟩

/-- Settles O52: the driven state of the cycle with the other buffer is that of the cycle, that buffer
apart. -/
theorem bufferIsReadOnlyInSelect : Obligations.BufferIsReadOnlyInSelect := by
  intro s t b c rest hh hs h
  rw [step_cycle hh] at h
  cases h
  rw [step_cycle (s := { s with ports := { s.ports with buf := b } }) hh]
  exact congrArg Host.Outcome.next (edgeOf_setBuffer (d := driveCtrl c (s.setHost rest)) hs b)

end Sys2Proof.Machine
end

-- Proofs: words, directives and pseudo-instructions (30_encoding.md)
section
/-! PROOFS of the family 30_encoding: which words have an operation, what a `.buf` directive puts on the
ports, and what the host's pseudo-instructions stand for, DECODE from its START to its result. -/

namespace Sys2Proof.Machine

/-! ### Which words decode -/

/-- A number wider than its site's format has no operation (30_encoding.md R70). -/
theorem decode_of_width_le {site : Site} {w : Nat} (h : 2 ^ site.width ≤ w) :
    decode site w = .error .tooWide := by
  cases site with
  | row => exact if_neg (Nat.not_lt.2 h)
  | pair | idPair | fixPair | sync | ctrl | state =>
    obtain ⟨n, rfl⟩ := Nat.exists_eq_add_of_le' h
    rfl

/-- Every pattern of a format other than ROW has its operation (30_encoding.md R81). -/
theorem decode_of_lt_width {site : Site} {w : Nat} (hs : site ≠ .row) (h : w < 2 ^ site.width) :
    ∃ i, decode site w = .ok i := by
  cases site with
  | row => exact absurd rfl hs
  | pair | idPair | fixPair | ctrl => change w < 4 at h; interval_cases w <;> exact ⟨_, rfl⟩
  | sync => change w < 2 at h; interval_cases w <;> exact ⟨_, rfl⟩
  | state => change w < 8 at h; interval_cases w <;> exact ⟨_, rfl⟩

theorem decodeRow_of_match {w : Nat} (hw : w < 2 ^ 25)
    (hm : BitVec.ofNat 25 w &&& rowMask = rowMatch) :
    decodeRow w = .ok (.rowAccept (BitVec.ofNat 25 w)) := by
  rw [decodeRow, if_pos hw, if_pos hm]

theorem decodeRow_of_mismatch {w : Nat} (hw : w < 2 ^ 25)
    (hm : BitVec.ofNat 25 w &&& rowMask ≠ rowMatch) : decodeRow w = .error .rowRejected := by
  rw [decodeRow, if_pos hw, if_neg hm]

/-! ### The checks of a row word -/

/-- The ordered checks find no cause exactly in the words that the packet_validator accepts
(60_exceptions.md R210, 42_packet_validator.md R150). -/
theorem rowCause_eq_none_iff (w : RowWord) : rowCause w = .none ↔ pvOk w = true := by
  unfold rowCause pvOk
  by_cases hall : allOk (rowLanes w) = true
  · have hsyms := laneSyms_ne_none hall
    rw [fixOk, fixDom_eq_not_anyFixFloating hsyms, idDom_eq_not_anyIdHigh hsyms]
    split_ifs <;> simp_all
  · split_ifs <;> simp_all

/-- The first cause in a row word, with the checks passed before it (60_exceptions.md R210). -/
theorem rowCause_cases (w : RowWord) :
    (rowCause w = .sync ∧ syncOk w = false) ∨
    (rowCause w = .badSym ∧ syncOk w = true ∧ allOk (rowLanes w) = false) ∨
    (syncOk w = true ∧ allOk (rowLanes w) = true ∧
      ((rowCause w = .fixDom ∧ anyFixFloating (laneSyms (rowLanes w)) = true) ∨
      (rowCause w = .fixVal ∧ anyFixFloating (laneSyms (rowLanes w)) = false ∧
        fixAsm (fixBits (laneSyms (rowLanes w))) ≠ kFixedValue) ∨
      (anyFixFloating (laneSyms (rowLanes w)) = false ∧
        fixAsm (fixBits (laneSyms (rowLanes w))) = kFixedValue ∧
        ((rowCause w = .idDom ∧ anyIdHigh (laneSyms (rowLanes w)) = true) ∨
        (rowCause w = .none ∧ anyIdHigh (laneSyms (rowLanes w)) = false))))) := by
  unfold rowCause
  split_ifs <;> simp_all

/-- A row word in which a check finds a cause is answered with `ok` = 0 and `pv_id` = 0
(42_packet_validator.md R154). -/
theorem pv_of_rowCause_ne_none {w : RowWord} (o : IdOrder) (h : rowCause w ≠ .none) :
    pv o w = (false, 0#5) :=
  if_neg (mt (rowCause_eq_none_iff w).2 h)

theorem pv_of_rowCause_eq_none {w : RowWord} (o : IdOrder) (h : rowCause w = .none) :
    pv o w = (true, idAsm o (idBits (laneSyms (rowLanes w)))) :=
  if_pos ((rowCause_eq_none_iff w).1 h)

/-! ### How a decode ends -/

/-- The core ends with result `res` after exactly `n` more edges with `rst` = 0, whatever the ports carry
in them: in EMIT for a match, in REJECT otherwise, and in neither before. -/
def EndsAfter (c : Config) (res : Bool × Ident) : Nat → Regs → Prop
  | 0, r => r.state = (if res.1 then .emit else .reject) ∧ (r.status, r.id) = res
  | n + 1, r => r.done = false ∧ ∀ p : Ports, EndsAfter c res n (ruleRegs c p r)

theorem done_of_endsAfter_zero {c : Config} {res : Bool × Ident} {r : Regs}
    (h : EndsAfter c res 0 r) : r.done = true := by
  obtain ⟨hstate, -⟩ := h
  rw [Regs.done, hstate]
  cases res.1 <;> rfl

/-- A row that passed SELECT is decided at the edge of the first cause in it, with the packet_validator's
answer (70_reset_and_hazards.md R241, 42_packet_validator.md R155). -/
theorem endsAfter_checkSync (c : Config) {r : Regs} {w : RowWord} {n : Nat} (hs : r.state = .checkSync)
    (hw : r.rowQ = w) (hn : causeEdge (rowCause w) = n + 1) : EndsAfter c (pv c.idOrder w) n r := by
  rcases rowCause_cases w with ⟨hc, hsync⟩ | ⟨hc, hsync, hall⟩ | ⟨hsync, hall, ⟨hc, hflo⟩ |
    ⟨hc, hflo, hfix⟩ | ⟨hflo, hfix, ⟨hc, hhigh⟩ | ⟨hc, hhigh⟩⟩⟩
  all_goals
    rw [hc] at hn
    cases hn
    simp [EndsAfter, ruleRegs, rejectedRegs, Regs.done, Regs.status, Regs.id, pv_of_rowCause_ne_none,
      pv_of_rowCause_eq_none, *]

theorem one_le_causeEdge (x : Cause) : 1 ≤ causeEdge x := by cases x <;> decide

/-- A buffer in which no row is selected ends the decode at E1 (60_exceptions.md R200). -/
theorem causeEdge_selectCause (c : Config) (b : Buffer) : causeEdge (selectCause c b) = 1 := by
  unfold selectCause
  split_ifs <;> rfl

/-- The edge that ends SELECT begins a decode of the buffer on its ports (43_core_sequencer.md R185). -/
theorem endsAfter_select {c : Config} {p : Ports} {r : Regs} {n : Nat} (hs : r.state = .select)
    (hn : causeEdge (decodeCause c p.buf) = n + 1) :
    EndsAfter c (decodeBuffer c p.buf) n (ruleRegs c p r) := by
  rw [decodeCause] at hn
  rw [decodeBuffer]
  cases hf : (matcher c p.buf).1 with
  | true =>
    rw [if_pos hf] at hn
    have hr : ruleRegs c p r = { r with
        state := .checkSync, rowQ := p.buf.word (matcher c p.buf).2 } := by
      rw [ruleRegs, hs]; exact if_pos hf
    rw [if_pos rfl, hr]
    exact endsAfter_checkSync c rfl rfl hn
  | false =>
    have hr : ruleRegs c p r = rejectedRegs r := by simp only [ruleRegs, hs, hf]; rfl
    rw [hf, if_neg (by decide), causeEdge_selectCause] at hn
    cases hn
    rw [hr]
    exact ⟨rfl, rfl⟩

/-! ### The cycles of a WAITDONE line -/

/-- One cycle with `rst` = 0 that a line drives, as one update of the state. -/
theorem edgeOf_of_rst_false {d : State} (h : d.ports.rst = false) :
    edgeOf d = { d with
      regs := ruleRegs d.cfg d.ports d.regs, nets := ruleNets d.cfg d.ports d.regs d.nets } := by
  rw [edgeOf, h, ← stateRule_eq]
  rfl

/-- A WAITDONE line makes a clock edge with `rst` = 0 on the buffer of the ports, and goes on for as long as
`done` = 0 (30_encoding.md R85). -/
theorem step_waitDone_edge {s : State} {rest : List HostLine} (hh : s.host = .waitDone :: rest) :
    ∃ (p : Ports) (t : State), step s = .next t ∧ p.buf = s.ports.buf ∧
      t.regs = ruleRegs s.cfg p s.regs ∧ t.host = afterWait s rest ∧ t.cfg = s.cfg ∧
      t.ports.buf = s.ports.buf ∧ t.cycle = s.cycle + 1 :=
  ⟨(s.setCtrl false false).ports, _,
    (step_waitDone hh).trans (congrArg _ (edgeOf_of_rst_false rfl)), rfl, rfl, rfl, rfl, rfl, rfl⟩

theorem ruleRegs_of_done {r : Regs} (h : r.done = true) (c : Config) (p : Ports) :
    ruleRegs c p r = { r with state := .idle } := by
  have hd : r.state = .reject ∨ r.state = .emit := by simpa [Regs.done] using h
  rcases hd with hd | hd <;> simp [ruleRegs, hd]

/-- A core that ends after `n` edges is back in IDLE with its result one edge later, which uses the WAITDONE
line up. -/
theorem run_waitDone {rest : List HostLine} {res : Bool × Ident} {n : Nat} :
    ∀ {s : State}, s.host = .waitDone :: rest → EndsAfter s.cfg res n s.regs →
    ∃ t, core.run (n + 1) s = .next t ∧ t.regs.state = .idle ∧ t.host = rest ∧
      t.ports.buf = s.ports.buf ∧ t.cycle = s.cycle + (n + 1) ∧ (t.regs.status, t.regs.id) = res := by
  induction n with
  | zero =>
    intro s hh hend
    have hdone := done_of_endsAfter_zero hend
    obtain ⟨-, hres⟩ := hend
    obtain ⟨p, t, hstep, -, hregs, hhost, -, hbuf, hcycle⟩ := step_waitDone_edge hh
    rw [ruleRegs_of_done hdone] at hregs
    rw [afterWait, if_pos hdone] at hhost
    exact ⟨t, run_succ_of_next 0 hstep, by rw [hregs], hhost, hbuf, hcycle, by rw [hregs]; exact hres⟩
  | succ n ih =>
    intro s hh ⟨hdone, hend⟩
    obtain ⟨p, t, hstep, -, hregs, hhost, hcfg, hbuf, hcycle⟩ := step_waitDone_edge hh
    rw [afterWait, if_neg (Bool.eq_false_iff.1 hdone)] at hhost
    obtain ⟨u, hrun, hidle, hrest, hubuf, hucycle, hres⟩ := ih hhost (by rw [hcfg, hregs]; exact hend p)
    exact ⟨u, (run_succ_of_next _ hstep).trans hrun, hidle, hrest, hubuf.trans hbuf, by omega, hres⟩

/-- A DECODE line in IDLE drives START, which the core answers by entering SELECT (43_core_sequencer.md
R174). -/
theorem step_decode_of_idle {s : State} {rest : List HostLine} (hs : s.regs.state = .idle)
    (hh : s.host = .decode :: rest) :
    ∃ t, step s = .next t ∧ t.regs = { s.regs with state := .select } ∧ t.host = .waitDone :: rest ∧
      t.cfg = s.cfg ∧ t.ports.buf = s.ports.buf ∧ t.cycle = s.cycle + 1 := by
  refine ⟨_, (step_decode hh).trans (congrArg _ (edgeOf_of_rst_false rfl)), ?_, rfl, rfl, rfl, rfl⟩
  simp [ruleRegs, driveCtrl, hs]

/-! ### The statements -/

/-- Settles O2: a format's words are the numbers that fit its width, a row word's operation is the
accepted row. -/
theorem everyPatternHasItsOperation : Obligations.EveryPatternHasItsOperation := by
  refine ⟨fun site w hs => ⟨fun ⟨i, hi⟩ => ?_, decode_of_lt_width hs⟩,
    fun w => ⟨fun ⟨i, hi⟩ => ?_, fun ⟨hw, hm⟩ => ⟨_, decodeRow_of_match hw hm⟩⟩,
    fun w hw hm => decodeRow_of_mismatch hw hm⟩
  · by_contra hw
    rw [decode_of_width_le (Nat.le_of_not_lt hw)] at hi
    cases hi
  · obtain ⟨hw, -⟩ := decodeRow_eq_ok hi
    refine ⟨hw, ?_⟩
    by_contra hm
    rw [decode, decodeRow_of_mismatch hw hm] at hi
    cases hi

/-- Settles O39: the buffer is the directive's, whose entries give each listed slot once. -/
theorem bufferDirectiveDrivesThePorts : Obligations.BufferDirectiveDrivesThePorts := by
  intro s b rest hh hb
  have hd : (b.slots.map (·.slot)).Nodup := of_decide_eq_true (Bool.and_eq_true_iff.1 hb).2
  have hstep := step_buf hh
  rw [bufFault_eq_none_iff.2 hb] at hstep
  refine ⟨bufferOfLine b, hstep, rfl, fun e he => ?_, fun k hk => ?_⟩
  · have hread := Memory.read_ofEntries_listed hd he
    exact ⟨congrArg Row.len hread, congrArg Row.word hread⟩
  · have hread := Memory.read_ofEntries_unlisted hk
    exact ⟨congrArg Row.len hread, congrArg Row.word hread⟩

/-- Settles O57: one edge for START, the SELECT edge that begins the decode of the buffer, the edges up to
its cause's, and the one that returns to IDLE. -/
theorem decodeLineCompletes : Obligations.DecodeLineCompletes := by
  intro s rest hs hh
  obtain ⟨n, hn⟩ := Nat.exists_eq_add_of_le' (one_le_causeEdge (decodeCause s.cfg s.ports.buf))
  obtain ⟨t, hstart, hregs, hhost, hcfg, hbuf, hcycle⟩ := step_decode_of_idle hs hh
  obtain ⟨p, u, hselect, hp, huregs, huhost, hucfg, hubuf, hucycle⟩ := step_waitDone_edge hhost
  have hend : EndsAfter u.cfg (decodeBuffer s.cfg s.ports.buf) n u.regs := by
    rw [← hbuf, ← hp] at hn ⊢
    rw [hucfg, huregs, hcfg]
    exact endsAfter_select (by rw [hregs]) hn
  have hwait : u.host = .waitDone :: rest := by
    rw [huhost, afterWait, hregs]
    rfl
  obtain ⟨v, hrun, hidle, hrest, hvbuf, hvcycle, hres⟩ := run_waitDone hwait hend
  refine ⟨v, ?_, hidle, hrest, by rw [hvbuf, hubuf, hbuf], by omega, hres⟩
  rw [hn, run_succ_of_next (n + 2) hstart, run_succ_of_next (n + 1) hselect, hrun]

/-- Settles O3, by running the decoder on each word. -/
theorem wordsOfTheSpecDecode : Obligations.WordsOfTheSpecDecode :=
  ⟨rfl, rfl, rfl, rfl, rfl, decodeRow_of_match (by decide) (by decide), rfl, rfl, rfl⟩

/-- Settles O40: each pseudo-instruction drives the same cycle as the first line of its expansion and leaves
the same lines. -/
theorem pseudoInstructionsExpand : Obligations.PseudoInstructionsExpand := by
  intro s rest
  refine ⟨?_, ?_, ?_⟩
  · rw [step_waitDone rfl, step_cycle rfl]
    rfl
  · rw [step_decode rfl, step_cycle rfl]
    rfl
  · rw [step_reset rfl, step_cycle rfl]
    rfl

end Sys2Proof.Machine
end

-- Proofs: the repetition_matcher (40_repetition_matcher.md)
section
/-! PROOFS of the family 40_repetition_matcher: how the occurrences of a row are counted, when a slot
qualifies, and which slot is selected. -/

namespace Sys2Proof.Machine

/-! ### The rows that a count is made of -/

theorem cand_iff {c : Config} {b : Buffer} {k : Nat} :
    cand c b k = true ↔ k < effCount c b ∧ b.len k = 25 := by
  simp [cand]

theorem rowEq_iff {c : Config} {b : Buffer} {j k : Nat} :
    rowEq c b j k = true ↔ cand c b j = true ∧ cand c b k = true ∧ b.word j = b.word k := by
  simp [rowEq, and_assoc]

theorem effCount_le_nrowsMax (c : Config) (b : Buffer) : effCount c b ≤ c.nrowsMax :=
  Nat.min_le_right _ _

/-- Only present slots are counted: a slot from the effective row count on is no candidate
(40_repetition_matcher.md R102, R104). -/
theorem occurrences_eq_countP_present (c : Config) (b : Buffer) (k : Nat) :
    occurrences c b k = (List.range (effCount c b)).countP fun j => rowEq c b j k := by
  obtain ⟨m, hm⟩ := Nat.exists_eq_add_of_le (effCount_le_nrowsMax c b)
  have habsent : (List.map (effCount c b + ·) (List.range m)).countP (fun j => rowEq c b j k) = 0 := by
    simp only [List.countP_eq_zero, List.mem_map]
    rintro _ ⟨i, -, rfl⟩ hi
    exact absurd (cand_lt (rowEq_iff.1 hi).1).1 (by omega)
  rw [occurrences, hm, List.range_add, List.countP_append, habsent, Nat.add_zero]

theorem occurrences_le_effCount (c : Config) (b : Buffer) (k : Nat) :
    occurrences c b k ≤ effCount c b := by
  rw [occurrences_eq_countP_present]
  exact List.countP_le_length.trans_eq List.length_range

/-- A candidate counts itself once, and beside itself the other present rows of 25 bits with its word
(40_repetition_matcher.md R104). -/
theorem occurrences_of_cand {c : Config} {b : Buffer} {k : Nat} (hk : cand c b k = true) :
    occurrences c b k = ((List.range (effCount c b)).filter fun j =>
      j ≠ k ∧ b.len j = 25 ∧ b.word j = b.word k).length + 1 := by
  have hself : k ∈ List.range (effCount c b) := List.mem_range.2 (cand_lt hk).1
  rw [occurrences_eq_countP_present, (List.perm_cons_erase hself).countP_eq,
    List.countP_cons_of_pos (p := fun j => rowEq c b j k) (rowEq_iff.2 ⟨hk, hk, rfl⟩),
    List.nodup_range.erase_eq_filter, List.countP_eq_length_filter, List.filter_filter]
  congr 2
  refine List.filter_congr fun j hj => ?_
  have hcand : cand c b j = (b.len j == 25) := by simp [cand, List.mem_range.1 hj]
  rw [rowEq, hcand, hk, Bool.eq_iff_iff]
  simp [and_comm]

/-! ### When a slot qualifies -/

/-- Four equal rows are four present rows, so the count of the row decides (40_repetition_matcher.md
R105). -/
theorem hit_iff {c : Config} {b : Buffer} {k : Nat} :
    hit c b k = true ↔ cand c b k = true ∧ 4 ≤ occurrences c b k := by
  have hle := occurrences_le_effCount c b k
  simp only [hit, Bool.and_eq_true, decide_eq_true_eq]
  constructor
  · rintro ⟨⟨-, hcand⟩, hocc⟩
    exact ⟨hcand, hocc⟩
  · rintro ⟨hcand, hocc⟩
    exact ⟨⟨hocc.trans hle, hcand⟩, hocc⟩

theorem four_le_effCount_of_hit {c : Config} {b : Buffer} {k : Nat} (h : hit c b k = true) :
    4 ≤ effCount c b :=
  (hit_iff.1 h).2.trans (occurrences_le_effCount c b k)

/-! ### The selected slot -/

theorem matcher_of_few_rows {c : Config} {b : Buffer} (h : effCount c b < 4) :
    matcher c b = (false, 0) := by
  rcases matcher_cases c b with ⟨k, -, hhit, -⟩ | ⟨hm, -⟩
  · exact absurd (four_le_effCount_of_hit hhit) (Nat.not_le.2 h)
  · exact hm

/-- A slot number fits the port `index` (00_scope.md R6). -/
theorem lt_two_pow_idxW {c : Config} {k : Nat} (h : k < c.nrowsMax) : k < 2 ^ c.idxW :=
  calc k ≤ c.nrowsMax - 1 := Nat.le_sub_one_of_lt h
    _ < 2 ^ (Nat.log2 (c.nrowsMax - 1) + 1) := Nat.lt_log2_self
    _ ≤ 2 ^ c.idxW := Nat.pow_le_pow_right two_pos (Nat.le_max_right _ _)

/-! ### The statements -/

/-- Settles O19: the counted slots are among the present ones. -/
theorem occurrencesAreBounded : Obligations.OccurrencesAreBounded :=
  fun c b k => ⟨occurrences_le_effCount c b k, effCount_le_nrowsMax c b⟩

/-- Settles O20: of the four rows that a count needs, the slot's own is one. -/
theorem qualifyingMeansFourEqualRows : Obligations.QualifyingMeansFourEqualRows := by
  intro c b k
  refine hit_iff.trans ((and_congr_right fun hk => ?_).trans (and_congr_left' cand_iff))
  rw [occurrences_of_cand hk]
  exact Nat.succ_le_succ_iff

/-- Settles O21, in the two cases of the matcher's answer. -/
theorem theLowestQualifyingSlotIsSelected : Obligations.TheLowestQualifyingSlotIsSelected := by
  intro c b
  rcases matcher_cases c b with ⟨k, hm, hhit, hmin⟩ | ⟨hm, hnone⟩
  · rw [hm]
    exact ⟨⟨fun _ => ⟨k, hhit⟩, fun _ => rfl⟩, fun _ => ⟨hhit, hmin⟩, (nomatch ·),
      fun _ => lt_two_pow_idxW (hit_lt_nrowsMax hhit)⟩
  · rw [hm]
    refine ⟨⟨(nomatch ·), ?_⟩, (nomatch ·), fun _ => rfl, fun _ => Nat.two_pow_pos _⟩
    rintro ⟨j, hj⟩
    exact absurd hj (by simp [hnone j])

/-- Settles O22: no slot qualifies, and the row count is the first check of the cause. -/
theorem fewerThanFourRowsReject : Obligations.FewerThanFourRowsReject := by
  intro c b h
  have hm := matcher_of_few_rows h
  exact ⟨by rw [hm], by simp [decodeBuffer, hm], by simp [decodeCause, selectCause, hm, h]⟩

end Sys2Proof.Machine
end

-- Proofs: the symbol decoder (41_symbol_decoder.md)
section
/-! PROOFS of the family 41_symbol_decoder: what a lane answers to each of the four pairs, and that
ST_DECODE runs the PAIR operations of all twelve lanes. -/

namespace Sys2Proof.Machine

/-! ### The four pairs of a lane -/

/-- The rows of the PAIR table (30_encoding.md R71), in its order. -/
theorem pair_cases (p : Pair) : p = 0b11#2 ∨ p = 0b00#2 ∨ p = 0b10#2 ∨ p = 0b01#2 := by
  revert p; decide

/-- Every pair decodes to an operation that gives its lane the decoder's answer to that pair
(41_symbol_decoder.md R121 to R124, R126). -/
theorem exec_decodedPair (i : Fin 12) (p : Pair) (s : State) :
    ∃ op u, decode (.pair i) p.toNat = .ok op ∧ exec op s = .next u ∧
      u.nets.lanes = s.nets.lanes.set i (lcsd p) := by
  rcases pair_cases p with rfl | rfl | rfl | rfl
  · exact ⟨.symLow i, _, rfl, rfl, rfl⟩
  · exact ⟨.symHigh i, _, rfl, rfl, rfl⟩
  · exact ⟨.symFloating i, _, rfl, rfl, rfl⟩
  · exact ⟨.symNone i, _, rfl, rfl, by rw [State.rejectRow_nets]; rfl⟩

/-- Only the pair 0b01 decodes to SYM_NONE (30_encoding.md R71). -/
theorem pair_of_decode_symNone {i : Fin 12} {p : Pair}
    (h : decode (.pair i) p.toNat = .ok (.symNone i)) : p = 0b01#2 := by
  rcases pair_cases p with rfl | rfl | rfl | rfl
  · cases h
  · cases h
  · cases h
  · rfl

/-! ### The rule of DECODE -/

/-- All twelve lanes answer, whether the row is rejected or not. -/
theorem ruleDecode_lanes (s : State) : (ruleDecode s).nets.lanes = rowLanes s.regs.rowQ := by
  unfold ruleDecode; dsimp only; split <;> rfl

/-- One pair that is no symbol rejects the row (60_exceptions.md R206). -/
theorem ruleDecode_of_badPair {s : State} {i : Fin 12} (h : pairAt s.regs.rowQ i = 0b01#2) :
    ruleDecode s = (s.setLanes (rowLanes s.regs.rowQ)).reject .badSym := by
  have hall : ¬ allOk (rowLanes s.regs.rowQ) = true := fun ha => (allOk_rowLanes_iff _).1 ha i h
  exact if_neg hall

/-! ### The statements -/

/-- Settles O5: the lane's answer, then the rejection of the row, whose cause DECODE detects. -/
theorem symbolNoneRejectsTheRow : Obligations.SymbolNoneRejectsTheRow := by
  intro i s
  have hcause : causeState .badSym = some s.regs.state ↔ s.regs.state = .decode :=
    Option.some_inj.trans eq_comm
  refine congrArg Host.Outcome.next ((State.rejectRow_eq .badSym _).trans ?_)
  simp only [laneEval, State.setLane, hcause]
  rfl

/-- Settles O7: the rule of DECODE gives every lane what its PAIR operation gives it, and a pair that is
SYM_NONE takes the rule into the same rejection. -/
theorem decodeRunsTheLaneOperations : Obligations.DecodeRunsTheLaneOperations := by
  intro s
  refine ⟨ruleDecode s, rfl, fun i => ?_, fun hs i hnone => ?_⟩
  · obtain ⟨op, u, hop, hu, hlanes⟩ := exec_decodedPair i (pairAt s.regs.rowQ i) s
    refine ⟨op, u, hop, hu, ?_⟩
    rw [ruleDecode_lanes, hlanes]
    simp
  · refine ⟨_, symbolNoneRejectsTheRow i s, ?_⟩
    rw [ruleDecode_of_badPair (pair_of_decode_symNone hnone), if_pos hs]
    exact ⟨rfl, rfl⟩

/-- Settles O4: each operation gives its lane the decoder's answer to the operation's own pair. -/
theorem symbolOperationsAnswer : Obligations.SymbolOperationsAnswer :=
  fun _ _ => ⟨rfl, rfl, rfl⟩

/-- Settles O6, one case per pair. -/
theorem lcsdGateEquations : Obligations.LcsdGateEquations := by
  intro p
  rcases pair_cases p with rfl | rfl | rfl | rfl <;> exact ⟨rfl, rfl, rfl⟩

end Sys2Proof.Machine
end

-- Proofs: the packet validator (42_packet_validator.md)
section
/-! PROOFS of the family 42_packet_validator: the operations that reject a row, the one pattern of the fixed
field, the closed form of the row check, and the one-to-one match of accepted rows and identifiers. -/

namespace Sys2Proof.Machine

/-! ### The operations that reject the row -/

/-- Rejecting a row, as one update of the state, for a cause that `st` detects (60_exceptions.md R200). -/
theorem State.rejectRow_of_causeState {c : Cause} {st : SeqState} (h : causeState c = some st) (s : State) :
    s.rejectRow c = { s with
      nets := { s.nets with pvOk := false, pvId := 0#5, cause := c }
      regs := if s.regs.state = st then
          { s.regs with state := .reject, resStatus := false, resId := 0#5 } else s.regs } := by
  rw [State.rejectRow_eq]
  simp only [h, Option.some_inj, eq_comm]

/-! ### The bits of the two weighted sums -/

/-- The exponent of identifier symbol `i` in the weighted sum (42_packet_validator.md R151). -/
def idWeight (o : IdOrder) (i : Fin 5) : Nat :=
  match o with
  | .msbFirst => 4 - i
  | .lsbFirst => i

theorem idAsm_getLsbD (o : IdOrder) (b : Vector Bool 5) (i : Fin 5) :
    (idAsm o b).getLsbD (idWeight o i) = b[i] := by
  obtain ⟨⟨l⟩, h⟩ := b
  match l, h with
  | [b0, b1, b2, b3, b4], _ => cases o <;> revert i b0 b1 b2 b3 b4 <;> decide

theorem idAsm_injective (o : IdOrder) : Function.Injective (idAsm o) := fun b d h =>
  Vector.ext fun i hi => by
    simpa only [idAsm_getLsbD, Fin.getElem_fin] using congrArg (·.getLsbD (idWeight o ⟨i, hi⟩)) h

/-- MSB_FIRST puts symbol 0 on the left. -/
theorem idAsm_msbFirst (b0 b1 b2 b3 b4 : Bool) :
    idAsm .msbFirst #v[b0, b1, b2, b3, b4] = BitVec.ofBool b0 ++ BitVec.ofBool b1 ++ BitVec.ofBool b2 ++
      BitVec.ofBool b3 ++ BitVec.ofBool b4 := by
  revert b0 b1 b2 b3 b4; decide

/-- LSB_FIRST puts symbol 0 on the right. -/
theorem idAsm_lsbFirst (b0 b1 b2 b3 b4 : Bool) :
    idAsm .lsbFirst #v[b0, b1, b2, b3, b4] = BitVec.ofBool b4 ++ BitVec.ofBool b3 ++ BitVec.ofBool b2 ++
      BitVec.ofBool b1 ++ BitVec.ofBool b0 := by
  revert b0 b1 b2 b3 b4; decide

theorem fixAsm_getLsbD (f : Vector Bool 7) (j : Fin 7) : (fixAsm f).getLsbD (6 - j) = f[j] := by
  obtain ⟨⟨l⟩, h⟩ := f
  match l, h with
  | [f0, f1, f2, f3, f4, f5, f6], _ => revert j f0 f1 f2 f3 f4 f5 f6; decide

/-- Only the bits `0110000` assemble to the required value (42_packet_validator.md R152). -/
theorem fixAsm_eq_kFixedValue_iff (f : Vector Bool 7) :
    fixAsm f = kFixedValue ↔ ∀ j : Fin 7, f[j] = decide (j = 1 ∨ j = 2) := by
  have hval : ∀ j : Fin 7, kFixedValue.getLsbD (6 - j) = decide (j = 1 ∨ j = 2) := by decide
  constructor
  · intro h j
    rw [← fixAsm_getLsbD, h, hval]
  · intro h
    refine BitVec.eq_of_getLsbD_eq fun k hk => ?_
    have hj : 6 - (6 - k) = k := by omega
    have hbit := (fixAsm_getLsbD f ⟨6 - k, by omega⟩).trans ((h _).trans (hval _).symm)
    simpa only [hj] using hbit

/-! ### The fields of an accepted row -/

/-- The fixed check passes exactly on the pattern LOW HIGH HIGH LOW LOW LOW LOW
(42_packet_validator.md R152). -/
theorem fixOk_iff (v : Vector Sym 12) :
    fixOk v = true ↔ ∀ j : Fin 7, v[fixIndex j] = if j = 1 ∨ j = 2 then .high else .low := by
  rw [fixOk, Bool.and_eq_true, beq_iff_eq, fixAsm_eq_kFixedValue_iff, fixDom_iff, ← forall_and]
  refine forall_congr' fun j => ?_
  have hget : (fixBits v)[j] = fixBit v (fixIndex j) := by simp [fixBits]
  rw [hget]
  constructor
  · rintro ⟨hdom, hval⟩
    rw [fixBit_of_mem hdom] at hval
    split_ifs with hj <;> rcases hdom with h | h <;> simp_all
  · intro h
    have hdom : v[fixIndex j] = .low ∨ v[fixIndex j] = .high := by rw [h]; split_ifs <;> simp
    rw [fixBit_of_mem hdom, h]
    exact ⟨h ▸ hdom, by split_ifs <;> simp [*]⟩

/-- Every symbol stands in the identifier or in the fixed field. -/
theorem symbolIndex_cases (i : Fin 12) : (∃ k, i = idIndex k) ∨ ∃ j, i = fixIndex j := by
  revert i; decide

/-- The sync bit and the fixed field are valid, and every identifier symbol is LOW or FLOATING
(42_packet_validator.md R156). -/
def FieldsValid (w : RowWord) : Prop :=
  w.getLsbD 0 = true ∧
  (∀ j : Fin 7, (lcsd (pairAt w (fixIndex j))).sym = if j = 1 ∨ j = 2 then .high else .low) ∧
  ∀ i : Fin 5, (lcsd (pairAt w (idIndex i))).sym = .low ∨ (lcsd (pairAt w (idIndex i))).sym = .floating

theorem syncOk_eq (w : RowWord) : syncOk w = w.getLsbD 0 := by
  simp [syncOk, rowPos]

theorem rowSyms_get (w : RowWord) (i : Fin 12) :
    (laneSyms (rowLanes w))[i] = (lcsd (pairAt w i)).sym := by
  simp

/-- The packet_validator's checks, of the single fields: valid fields leave no symbol NONE. -/
theorem pvOk_iff (w : RowWord) : pvOk w = true ↔ FieldsValid w := by
  simp only [pvOk, Bool.and_eq_true, syncOk_eq, fixOk_iff, idDom_iff, rowSyms_get, FieldsValid]
  constructor
  · rintro ⟨⟨⟨hs, -⟩, hfix⟩, hid⟩
    exact ⟨hs, hfix, hid⟩
  · rintro ⟨hs, hfix, hid⟩
    refine ⟨⟨⟨hs, (allOk_rowLanes_iff w).2 fun i => ?_⟩, hfix⟩, hid⟩
    rw [Ne, ← lcsd_sym_none_iff]
    rcases symbolIndex_cases i with ⟨k, rfl⟩ | ⟨j, rfl⟩
    · rcases hid k with h | h <;> simp [h]
    · rw [hfix j]; split_ifs <;> simp

/-! ### The closed form -/

/-- A row word is its sync bit and its twelve pairs (30_encoding.md R73). -/
theorem rowWord_ext {w x : RowWord} (hs : w.getLsbD 0 = x.getLsbD 0)
    (hp : ∀ i : Fin 12, pairAt w i = pairAt x i) : w = x := by
  refine BitVec.eq_of_getLsbD_eq fun k hk => ?_
  rcases Nat.eq_zero_or_pos k with rfl | hpos
  · exact hs
  · have hpair := congrArg (·.getLsbD ((k - 1) % 2)) (hp ⟨(24 - k) / 2, by omega⟩)
    have hbit : 23 - 2 * ((24 - k) / 2) + (k - 1) % 2 = k := by omega
    have htwo : (k - 1) % 2 < 2 := Nat.mod_lt _ two_pos
    simpa only [pairAt, BitVec.getLsbD_extractLsb', hbit, htwo, decide_true, Bool.true_and] using hpair

/-- The accepted-row pattern at an identifier symbol (30_encoding.md R80). -/
theorem idPair_matches_iff : ∀ (i : Fin 5) (p : Pair),
    p &&& pairAt rowMask (idIndex i) = pairAt rowMatch (idIndex i) ↔
      (lcsd p).sym = .low ∨ (lcsd p).sym = .floating := by
  decide

/-- The accepted-row pattern at a symbol of the fixed field (30_encoding.md R80). -/
theorem fixPair_matches_iff : ∀ (j : Fin 7) (p : Pair),
    p &&& pairAt rowMask (fixIndex j) = pairAt rowMatch (fixIndex j) ↔
      (lcsd p).sym = if j = 1 ∨ j = 2 then .high else .low := by
  decide

theorem rowMatches_iff (w : RowWord) : rowMatches w = true ↔ FieldsValid w := by
  have hpair (i : Fin 12) : pairAt (w &&& rowMask) i = pairAt w i &&& pairAt rowMask i :=
    BitVec.extractLsb'_and
  have hsync : (w &&& rowMask).getLsbD 0 = w.getLsbD 0 := by
    rw [BitVec.getLsbD_and]; exact Bool.and_true _
  rw [rowMatches, beq_iff_eq]
  constructor
  · intro h
    refine ⟨hsync.symm.trans (congrArg (·.getLsbD 0) h), fun j => ?_, fun i => ?_⟩
    · rw [← fixPair_matches_iff, ← hpair, h]
    · rw [← idPair_matches_iff i, ← hpair, h]
  · rintro ⟨hs, hfix, hid⟩
    refine rowWord_ext (hsync.trans hs) fun i => ?_
    rw [hpair]
    rcases symbolIndex_cases i with ⟨k, rfl⟩ | ⟨j, rfl⟩
    · exact (idPair_matches_iff k _).2 (hid k)
    · exact (fixPair_matches_iff j _).2 (hfix j)

theorem pvOk_eq_rowMatches (w : RowWord) : pvOk w = rowMatches w :=
  Bool.eq_iff_iff.2 ((pvOk_iff w).trans (rowMatches_iff w).symm)

/-- An identifier bit of the closed form is the right bit of its symbol's pair (30_encoding.md R79). -/
theorem closedIdBits_get (w : RowWord) (i : Fin 5) :
    (closedIdBits w)[i] = (pairAt w (idIndex i)).getLsbD 0 := by
  simp only [pairAt, BitVec.getLsbD_extractLsb']
  revert i
  simp [Fin.forall_fin_succ, closedIdBits, idIndex]

/-- Between LOW and FLOATING, the right bit of the pair says which (30_encoding.md R77). -/
theorem right_bit_of_idDom : ∀ p : Pair, (lcsd p).sym = .low ∨ (lcsd p).sym = .floating →
    p.getLsbD 0 = ((lcsd p).sym == .low) := by
  decide

theorem idBits_of_fieldsValid {w : RowWord} (h : FieldsValid w) :
    idBits (laneSyms (rowLanes w)) = closedIdBits w := by
  obtain ⟨-, -, hid⟩ := h
  refine Vector.ext fun i hi => ?_
  have hdom := hid ⟨i, hi⟩
  calc (idBits (laneSyms (rowLanes w)))[i]
      = idBit (laneSyms (rowLanes w)) (idIndex ⟨i, hi⟩) := by simp [idBits]
    _ = ((lcsd (pairAt w (idIndex ⟨i, hi⟩))).sym == .low) := by
      rw [← rowSyms_get] at hdom ⊢
      exact idBit_of_mem hdom
    _ = (pairAt w (idIndex ⟨i, hi⟩)).getLsbD 0 := (right_bit_of_idDom _ hdom).symm
    _ = (closedIdBits w)[i] := (closedIdBits_get w ⟨i, hi⟩).symm

/-- The closed form is the packet_validator's function (42_packet_validator.md R153). -/
theorem pv_eq_rowAcceptResult (o : IdOrder) (w : RowWord) : pv o w = rowAcceptResult o w := by
  rw [pv, rowAcceptResult, pvOk_eq_rowMatches]
  split_ifs with h
  · rw [idBits_of_fieldsValid ((rowMatches_iff w).1 h)]
  · rfl

theorem pv_fst (o : IdOrder) (w : RowWord) : (pv o w).1 = rowMatches w := by
  rw [pv_eq_rowAcceptResult, rowAcceptResult]
  split_ifs with h <;> simp [h]

/-! ### Accepted rows and identifiers -/

/-- LOW and FLOATING pairs with the same right bit are equal. -/
theorem idPair_eq_of_right_bit : ∀ p q : Pair, ((lcsd p).sym = .low ∨ (lcsd p).sym = .floating) →
    ((lcsd q).sym = .low ∨ (lcsd q).sym = .floating) → p.getLsbD 0 = q.getLsbD 0 → p = q := by
  decide

theorem lcsd_sym_injective : ∀ p q : Pair, (lcsd p).sym = (lcsd q).sym → p = q := by
  decide

/-- An accepted row is determined by its identifier bits. -/
theorem row_eq_of_closedIdBits {w x : RowWord} (hw : FieldsValid w) (hx : FieldsValid x)
    (h : closedIdBits w = closedIdBits x) : w = x := by
  obtain ⟨hws, hwfix, hwid⟩ := hw
  obtain ⟨hxs, hxfix, hxid⟩ := hx
  refine rowWord_ext (hws.trans hxs.symm) fun i => ?_
  rcases symbolIndex_cases i with ⟨k, rfl⟩ | ⟨j, rfl⟩
  · refine idPair_eq_of_right_bit _ _ (hwid k) (hxid k) ?_
    rw [← closedIdBits_get, ← closedIdBits_get, h]
  · exact lcsd_sym_injective _ _ ((hwfix j).trans (hxfix j).symm)

/-- The accepted row that carries an identifier: the bit of weight `idWeight o i` stands at bit
`23 - 2i` (30_encoding.md R79, R80). -/
def rowOfIdent (o : IdOrder) (id : Ident) : RowWord :=
  (List.finRange 5).foldl
    (fun w i => w ||| (BitVec.ofBool (id.getLsbD (idWeight o i))).setWidth 25 <<< (23 - 2 * i.val)) rowMatch

theorem rowAcceptResult_rowOfIdent (o : IdOrder) (id : Ident) :
    rowAcceptResult o (rowOfIdent o id) = (true, id) := by
  cases o <;> revert id <;> decide

theorem pv_eq_true_iff {o : IdOrder} {w : RowWord} {id : Ident} :
    pv o w = (true, id) ↔ FieldsValid w ∧ idAsm o (closedIdBits w) = id := by
  rw [pv_eq_rowAcceptResult, rowAcceptResult, ← rowMatches_iff]
  split_ifs with h <;> simp [h]

/-- Each identifier is given by exactly one row word (42_packet_validator.md R156). -/
theorem existsUnique_row_of_ident (o : IdOrder) (id : Ident) : ∃! w : RowWord, pv o w = (true, id) := by
  have hrow : pv o (rowOfIdent o id) = (true, id) :=
    (pv_eq_rowAcceptResult o _).trans (rowAcceptResult_rowOfIdent o id)
  refine ⟨rowOfIdent o id, hrow, fun w hw => ?_⟩
  obtain ⟨hvalid, hid⟩ := pv_eq_true_iff.1 hw
  obtain ⟨hvalid', hid'⟩ := pv_eq_true_iff.1 hrow
  exact row_eq_of_closedIdBits hvalid hvalid' (idAsm_injective o (hid.trans hid'.symm))

/-! ### A flipped bit in the fixed field -/

/-- A row position of the fixed field is one bit of one of its pairs (30_encoding.md R73). -/
theorem pairAt_flip_fixed {p : Nat} (h10 : 10 ≤ p) (h23 : p ≤ 23) :
    ∃ j : Fin 7, pairAt (1#25 <<< (24 - p)) (fixIndex j) = 0b01#2 ∨
      pairAt (1#25 <<< (24 - p)) (fixIndex j) = 0b10#2 := by
  interval_cases p <;> decide

/-- Flipping one bit of a LOW or HIGH pair makes it no symbol, or FLOATING. -/
theorem lcsd_flip : ∀ p q : Pair, ((lcsd p).sym = .high ∨ (lcsd p).sym = .low) →
    (q = 0b01#2 ∨ q = 0b10#2) → (lcsd (p ^^^ q)).sym = .none ∨
      (lcsd (p ^^^ q)).sym = .floating := by
  decide

/-- A NONE or FLOATING in the fixed field is found before any later check (60_exceptions.md R210). -/
theorem rowCause_of_bad_fixed {w : RowWord} {j : Fin 7} (hs : syncOk w = true)
    (hj : (lcsd (pairAt w (fixIndex j))).sym = .none ∨ (lcsd (pairAt w (fixIndex j))).sym = .floating) :
    rowCause w = .badSym ∨ rowCause w = .fixDom := by
  rw [← rowSyms_get] at hj
  unfold rowCause
  rw [if_neg (by simp [hs])]
  by_cases hall : allOk (rowLanes w) = true
  · have hflo : anyFixFloating (laneSyms (rowLanes w)) = true :=
      (anyFixFloating_iff _).2 ⟨j, hj.resolve_left (laneSyms_ne_none hall _)⟩
    rw [if_neg (by simp [hall]), if_pos hflo]
    exact .inr rfl
  · rw [if_pos (by simpa using hall)]
    exact .inl rfl

theorem syncOk_flipPos (w : RowWord) {p : Nat} (h : p ≤ 23) : syncOk (flipPos w p) = syncOk w := by
  have hp : 0 < 24 - p := by omega
  simp [syncOk_eq, flipPos, hp]

/-! ### The statements -/

/-- Settles O9: RJ_IDDOM is detected in VALIDATE_ID, RJ_BADSYM in DECODE. -/
theorem identifierRejectionsRejectTheRow : Obligations.IdentifierRejectionsRejectTheRow := fun _ s =>
  ⟨congrArg Host.Outcome.next (State.rejectRow_of_causeState rfl s),
    congrArg Host.Outcome.next (State.rejectRow_of_causeState rfl s)⟩

/-- Settles O11: RJ_FIXDOM is detected in VALIDATE_FIXED, RJ_BADSYM in DECODE. -/
theorem fixedRejectionsRejectTheRow : Obligations.FixedRejectionsRejectTheRow := fun _ s =>
  ⟨congrArg Host.Outcome.next (State.rejectRow_of_causeState rfl s),
    congrArg Host.Outcome.next (State.rejectRow_of_causeState rfl s)⟩

/-- Settles O12: RJ_SYNC is detected in CHECK_SYNC. -/
theorem syncOperations : Obligations.SyncOperations := fun s =>
  ⟨rfl, congrArg Host.Outcome.next (State.rejectRow_of_causeState rfl (s.setSync false))⟩

/-- Settles O13, one case per order of the identifier's bits. -/
theorem rowAcceptAnswers : Obligations.RowAcceptAnswers := by
  intro w s
  have hid : (rowAcceptResult s.cfg.idOrder w).2 = if w &&& 0x1557FFF#25 = 0x15561FF#25 then
      idAsm s.cfg.idOrder (closedIdBits w) else 0#5 := by
    simp only [rowAcceptResult, rowMatches, beq_iff_eq]
    split_ifs <;> rfl
  have hok : (rowAcceptResult s.cfg.idOrder w).1 = (w &&& 0x1557FFF#25 == 0x15561FF#25) := by
    rw [← pv_eq_rowAcceptResult, pv_fst, rowMatches]
  simp only [exec, execRowAccept, State.setPv, State.setCause, hid, hok]
  cases s.cfg.idOrder
  · rw [closedIdBits, idAsm_msbFirst]
  · rw [closedIdBits, idAsm_lsbFirst]

/-- Settles O14: the closed form with its bits written out, and one row per identifier. -/
theorem closedFormIsThePacketValidator : Obligations.ClosedFormIsThePacketValidator := by
  refine ⟨fun w => ?_, fun id => ?_⟩
  · rw [pv_eq_rowAcceptResult, rowAcceptResult, closedIdBits, idAsm_msbFirst]
    simp only [rowMatches, beq_iff_eq]
  · refine (existsUnique_congr fun w => ?_).1 (existsUnique_row_of_ident .msbFirst id)
    rw [Prod.ext_iff, pv_fst, rowMatches, beq_iff_eq]

/-- Settles O15: valid fields are what the packet_validator checks, and a row is its identifier bits. -/
theorem identifiersAreABijection : Obligations.IdentifiersAreABijection := by
  refine ⟨fun o w hs hfix hid => ?_, existsUnique_row_of_ident⟩
  rw [pv_fst, rowMatches_iff]
  exact ⟨hs, hfix, hid⟩

/-- Settles O16: the flip makes a symbol of the fixed field NONE or FLOATING. -/
theorem fixedFieldFlipsReject : Obligations.FixedFieldFlipsReject := by
  intro o w p hok h10 h23
  rw [pv_fst, rowMatches_iff] at hok
  obtain ⟨hs, hfixed, -⟩ := hok
  obtain ⟨j, hflip⟩ := pairAt_flip_fixed h10 h23
  have hsync : syncOk (flipPos w p) = true := by rw [syncOk_flipPos w h23, syncOk_eq, hs]
  have hfix : (lcsd (pairAt w (fixIndex j))).sym = .high ∨ (lcsd (pairAt w (fixIndex j))).sym = .low := by
    rw [hfixed j]; split_ifs <;> simp
  have hpair : pairAt (flipPos w p) (fixIndex j) =
      pairAt w (fixIndex j) ^^^ pairAt (1#25 <<< (24 - p)) (fixIndex j) := BitVec.extractLsb'_xor
  have hcause := rowCause_of_bad_fixed hsync (hpair ▸ lcsd_flip _ _ hfix hflip)
  refine ⟨pv_of_rowCause_ne_none o ?_, hcause⟩
  rcases hcause with h | h <;> simp [h]

/-- Settles O30: symbols 5 to 11 are the seven places of the fixed field. -/
theorem fixedValueIsOnePattern : Obligations.FixedValueIsOnePattern := by
  intro v
  rw [fixOk_iff]
  simp [Fin.forall_fin_succ, fixIndex]

/-- Settles O8: the operation writes its own bit and nothing else. -/
theorem identifierOperationsGiveTheirBit : Obligations.IdentifierOperationsGiveTheirBit :=
  fun _ _ => ⟨rfl, rfl⟩

/-- Settles O10: the operation writes its own bit and nothing else. -/
theorem fixedOperationsGiveTheirBit : Obligations.FixedOperationsGiveTheirBit :=
  fun _ _ => ⟨rfl, rfl⟩

end Sys2Proof.Machine
end

-- Proofs: the core sequencer (43_core_sequencer.md)
section
/-! PROOFS of the family 43_core_sequencer: what each STATE and CTRL operation does, which operation a cycle
runs, and that a decode from SELECT ends at its cause's edge with `Decode` of the buffer. -/

namespace Sys2Proof.Machine

/-! ### A decode from its SELECT cycle -/

theorem causeEdge_le_five (x : Cause) : causeEdge x ≤ 5 := by cases x <;> decide

/-- A run with `rst` = 0 comes nearer to the end of a decode by one edge per cycle; the steps between the
cycles leave the registers alone. -/
theorem endsAfter_run {res : Bool × Ident} {m n : Nat} {t : State} :
    ∀ {s : State} {j : Nat}, EndsAfter s.cfg res (m + j) s.regs → core.run n s = .next t →
      rstLow n s = true → t.cycle = s.cycle + j → EndsAfter s.cfg res m t.regs := by
  induction n with
  | zero =>
    intro s j hend hrun _ hj
    cases hrun
    obtain rfl : j = 0 := by omega
    exact hend
  | succ n ih =>
    intro s j hend hrun hlow hj
    obtain ⟨u, hstep, hrun⟩ := run_succ_inv hrun
    obtain ⟨hrst, hlow⟩ := (rstLow_succ hstep).1 hlow
    have hcfg := step_cfg hstep
    rw [← hcfg] at hend ⊢
    rcases step_cycle_cases hstep with hedge | ⟨hquiet, hregs⟩
    · have hle := run_cycle_le hrun
      obtain ⟨k, rfl⟩ : ∃ k, j = k + 1 := Nat.exists_eq_add_of_le' (by omega)
      obtain ⟨-, hnext⟩ := hend
      obtain ⟨hregs, -⟩ := step_edge hstep hedge hrst
      refine ih (j := k) ?_ hrun hlow (by omega)
      rw [hregs, ← hcfg]
      exact hnext u.ports
    · exact ih (hregs ▸ hend) hrun hlow (by omega)

/-- Up to the edge of the cause of the buffer in the SELECT cycle, the core is done exactly after that edge,
with `Decode` of that buffer (43_core_sequencer.md R185, 70_reset_and_hazards.md R241). -/
theorem decode_of_select_run {s r t : State} {n j e : Nat} (hs : s.regs.state = .select)
    (hstep : step s = .next r) (hedge : r.cycle = s.cycle + 1)
    (he : causeEdge (decodeCause s.cfg r.ports.buf) = e) (hrun : core.run n s = .next t)
    (hlow : rstLow n s = true) (hj : t.cycle = s.cycle + j) (hle : j ≤ e) :
    (t.regs.done = true ↔ j = e) ∧
      (j = e → EndsAfter s.cfg (decodeBuffer s.cfg r.ports.buf) 0 t.regs) := by
  have hpos : 1 ≤ e := he ▸ one_le_causeEdge _
  cases n with
  | zero =>
    cases hrun
    have hne : j ≠ e := by omega
    exact ⟨iff_of_false (by simp [Regs.done, hs]) hne, fun h => absurd h hne⟩
  | succ n =>
    have hrun := (run_succ_of_next n hstep).symm.trans hrun
    obtain ⟨hrst, hlow⟩ := (rstLow_succ hstep).1 hlow
    have hcycle := run_cycle_le hrun
    obtain ⟨k, rfl⟩ : ∃ k, j = k + 1 := Nat.exists_eq_add_of_le' (by omega)
    obtain ⟨m, rfl⟩ := Nat.exists_eq_add_of_le' hle
    have hselect : EndsAfter r.cfg (decodeBuffer s.cfg r.ports.buf) (m + k) r.regs := by
      rw [step_cfg hstep, (step_edge hstep hedge hrst).1]
      exact endsAfter_select hs he
    have hend := endsAfter_run hselect hrun hlow (by omega)
    rw [step_cfg hstep] at hend
    cases m with
    | zero =>
      have heq : k + 1 = 0 + (k + 1) := (Nat.zero_add _).symm
      exact ⟨iff_of_true (done_of_endsAfter_zero hend) heq, fun _ => hend⟩
    | succ m =>
      have hne : k + 1 ≠ m + 1 + (k + 1) := by omega
      obtain ⟨hdone, -⟩ := hend
      exact ⟨iff_of_false (Bool.eq_false_iff.1 hdone) hne, fun h => absurd h hne⟩

/-! ### The operations of the states -/

/-- Only the rule of IDLE keeps the `state` register, so every other one does the same whatever stands
there. -/
theorem exec_stateInstr_goto {st : SeqState} (h : st ≠ .idle) (s : State) :
    exec (stateInstr st) (s.goto st) = exec (stateInstr st) s := by
  cases st with
  | idle => exact absurd rfl h
  | _ => rfl

/-- A STATE operation, as one update of the state, in whatever state it runs (43_core_sequencer.md R172). -/
theorem exec_stateInstr_eq {st : SeqState} (h : st ≠ .idle) {s : State} {r : Regs}
    (hr : ruleRegs s.cfg s.ports { s.regs with state := st } = r) :
    exec (stateInstr st) s = .next { s with
      regs := r, nets := ruleNets s.cfg s.ports { s.regs with state := st } s.nets } := by
  rw [← exec_stateInstr_goto h, ← hr]
  exact (exec_stateInstr (s.goto st)).trans (congrArg Host.Outcome.next (stateRule_eq (s.goto st)))

/-- The first cause in a buffer without a qualifying slot, of its present slots
(60_exceptions.md R202 to R204). -/
theorem selectCause_eq (c : Config) (b : Buffer) :
    selectCause c b = if effCount c b < 4 then .rowCount
      else if ∃ k < effCount c b, b.len k = 25 then .noRepeat else .noLen := by
  have hany : (List.range c.nrowsMax).any (fun k => cand c b k) = false ↔
      ¬ ∃ k < effCount c b, b.len k = 25 := by
    rw [← Bool.not_eq_true, List.any_eq_true]
    refine not_congr (exists_congr fun k => ?_)
    rw [cand_iff, List.mem_range]
    exact and_iff_right_of_imp fun ⟨hk, _⟩ => hk.trans_le (effCount_le_nrowsMax c b)
  simp only [selectCause, hany, ite_not]

theorem anyFixFloating_eq_false_iff (v : Vector Sym 12) :
    anyFixFloating v = false ↔ ∀ j : Fin 7, v[fixIndex j] ≠ .floating := by
  rw [← Bool.not_eq_true, anyFixFloating_iff, not_exists]

/-- The fixed-field bits of LOW and HIGH symbols (42_packet_validator.md R152). -/
theorem fixBits_of_fixDom {v : Vector Sym 12} (h : fixDom v = true) :
    fixBits v = Vector.ofFn fun j : Fin 7 => v[fixIndex j] == .high :=
  congrArg Vector.ofFn (funext fun j => fixBit_of_mem ((fixDom_iff v).1 h j))

/-- The identifier bits of LOW and FLOATING symbols (42_packet_validator.md R151). -/
theorem idBits_of_idDom {v : Vector Sym 12} (h : idDom v = true) :
    idBits v = Vector.ofFn fun i : Fin 5 => v[idIndex i] == .low :=
  congrArg Vector.ofFn (funext fun i => idBit_of_mem ((idDom_iff v).1 h i))

/-! ### The commands -/

theorem stateRule_of_idle {s : State} (h : s.regs.state = .idle) : stateRule s = ruleIdle s := by
  rw [stateRule, h]

/-- Outside IDLE no rule reads the control ports (43_core_sequencer.md R175). -/
theorem ruleRegs_ctrl_of_ne_idle {r : Regs} (hr : r.state ≠ .idle) (c : Config) (p : Ports)
    (rst start : Bool) : ruleRegs c { p with rst := rst, start := start } r = ruleRegs c p r := by
  unfold ruleRegs
  cases hs : r.state with
  | idle => exact absurd hs hr
  | _ => rfl

/-- Outside IDLE the rule carries any control ports along unread. -/
theorem stateRule_setCtrl {s : State} (hs : s.regs.state ≠ .idle) (rst start : Bool) :
    stateRule (s.setCtrl rst start) = (stateRule s).setCtrl rst start := by
  rw [stateRule_eq, stateRule_eq]
  simp only [State.setCtrl, ruleRegs_ctrl_of_ne_idle hs]
  rfl

/-- The word of the `state` register decodes to its operation (30_encoding.md R75). -/
theorem decode_stateCode (st : SeqState) : decode .state st.code.toNat = .ok (stateInstr st) := by
  cases st <;> rfl

/-- On the ports that a CTRL word drives, its operation is the clock edge (30_encoding.md R74). -/
theorem exec_decodedCtrl {c : BitVec 2} {i : Instr} (h : decode .ctrl c.toNat = .ok i) (s : State) :
    exec i (driveCtrl c s) = .next (edgeOf (driveCtrl c s)) := by
  rcases pair_cases c with rfl | rfl | rfl | rfl <;> cases h <;> rfl

/-! ### The statements -/

/-- Settles O54: a decode from SELECT is done at its cause's edge and not before, and a host of well-formed
lines reaches that cycle. -/
theorem sequencerComputesDecode : Obligations.SequencerComputesDecode := by
  intro s r hs hstep hedge e
  refine ⟨one_le_causeEdge _, causeEdge_le_five _, fun hwf => run_reaches hwf e,
    fun n t hrun hlow => ⟨fun hlt => ?_, fun heq => ?_⟩⟩
  · obtain ⟨j, hj⟩ := Nat.exists_eq_add_of_le (run_cycle_le hrun)
    have hje : j < e := by omega
    obtain ⟨hdone, -⟩ := decode_of_select_run hs hstep hedge rfl hrun hlow hj hje.le
    exact Bool.eq_false_iff.2 fun h => hje.ne (hdone.1 h)
  · obtain ⟨hdone, hend⟩ := decode_of_select_run hs hstep hedge rfl hrun hlow heq le_rfl
    obtain ⟨hstate, hres⟩ := hend rfl
    refine ⟨hdone.2 rfl, hres, ?_⟩
    rw [hstate]
    cases (decodeBuffer s.cfg r.ports.buf).1 <;> decide

/-- Settles O56: both decodes end at the edge of the one buffer's cause, with `Decode` of that buffer. -/
theorem decodesAreIndependent : Obligations.DecodesAreIndependent := by
  intro s u r q hs hu hcfg hsr hr huq hq hbuf
  obtain ⟨e, he⟩ : ∃ e, causeEdge (decodeCause s.cfg r.ports.buf) = e := ⟨_, rfl⟩
  refine ⟨e, he ▸ one_le_causeEdge _, he ▸ causeEdge_le_five _, fun hwf => ?_, ?_⟩
  · obtain ⟨hws, hwu⟩ := List.forall_mem_append.1 hwf
    rw [hcfg] at hwu
    obtain ⟨n, -, t, hrun, hcycle⟩ := run_reaches hws e
    obtain ⟨m, -, v, hrun', hcycle'⟩ := run_reaches hwu e
    exact ⟨n, m, t, v, hrun, hrun', hcycle, hcycle'⟩
  · intro n m t v hrun hrun' hlow hlow' j hj hcycle hcycle'
    have he' : causeEdge (decodeCause u.cfg q.ports.buf) = e := by rw [← hcfg, ← hbuf, he]
    obtain ⟨hdone, hend⟩ := decode_of_select_run hs hsr hr he hrun hlow hcycle hj
    obtain ⟨hdone', hend'⟩ := decode_of_select_run hu huq hq he' hrun' hlow' hcycle' hj
    refine ⟨hdone, hdone', fun heq => ?_⟩
    obtain ⟨-, hres⟩ := hend heq
    obtain ⟨-, hres'⟩ := hend' heq
    rw [← hcfg, ← hbuf] at hres'
    exact Prod.ext_iff.1 (hres.trans hres'.symm)

/-- Settles O26: the rule of SELECT, with its cause written out. -/
theorem selectTakesTheRepeatedRow : Obligations.SelectTakesTheRepeatedRow := by
  intro s
  refine (exec_stateInstr_eq (st := .select) (by decide) rfl).trans ?_
  simp only [ruleRegs, ruleNets, rejectedRegs, selectCause_eq]
  rfl

/-- Settles O27: row position 24 is bit 0 of the row word. -/
theorem checkSyncTestsRowPositionTwentyFour : Obligations.CheckSyncTestsRowPositionTwentyFour := by
  intro s
  refine ⟨_, exec_stateInstr_eq (st := .checkSync) (by decide) ?_, fun h => ?_⟩
  · simp only [ruleRegs, rejectedRegs, syncOk_eq]
  · simp only [ruleNets, syncOk_eq, h]
    rfl

/-- Settles O28: the lanes all answer a symbol exactly when no pair is 0b01. -/
theorem decodeWritesAllSymbolsOrNone : Obligations.DecodeWritesAllSymbolsOrNone := by
  intro s
  have hall : allOk (rowLanes s.regs.rowQ) = true ↔ ¬ ∃ i, pairAt s.regs.rowQ i = 0b01#2 :=
    (allOk_rowLanes_iff _).trans not_exists.symm
  refine ⟨_, laneSyms (rowLanes s.regs.rowQ), rowSyms_get _,
    exec_stateInstr_eq (st := .decode) (by decide) ?_, fun h => ?_⟩
  · simp only [ruleRegs, rejectedRegs, hall, ite_not]
  · simp only [ruleNets, hall, ite_not, if_pos h]

/-- Settles O29: without a FLOATING the bits of the fixed field are "the symbol is HIGH". -/
theorem validateFixedComparesWithFortyEight : Obligations.ValidateFixedComparesWithFortyEight := by
  intro s hsym
  have hbits (h : anyFixFloating s.regs.symQ = false) : fixBits s.regs.symQ =
      Vector.ofFn fun j : Fin 7 => s.regs.symQ[fixIndex j] == .high :=
    fixBits_of_fixDom (by rw [fixDom_eq_not_anyFixFloating hsym, h]; rfl)
  refine ⟨_, exec_stateInstr_eq (st := .validateFixed) (by decide) ?_, fun hflo => ?_,
    fun hflo hval => ?_⟩
  · simp only [← anyFixFloating_eq_false_iff]
    cases h : anyFixFloating s.regs.symQ with
    | true => simp [ruleRegs, rejectedRegs, h]
    | false => simp [ruleRegs, rejectedRegs, h, hbits h]
  · simp [ruleNets, (anyFixFloating_iff _).2 hflo]
  · have h := (anyFixFloating_eq_false_iff _).2 hflo
    rw [← hbits h] at hval
    simp [ruleNets, h, hval]

/-- Settles O31: without a HIGH the identifier's bits are "the symbol is LOW". -/
theorem validateIdEmitsTheIdentifier : Obligations.ValidateIdEmitsTheIdentifier := by
  intro s hsym
  have hbits (h : anyIdHigh s.regs.symQ = false) : idBits s.regs.symQ =
      Vector.ofFn fun i : Fin 5 => s.regs.symQ[idIndex i] == .low :=
    idBits_of_idDom (by rw [idDom_eq_not_anyIdHigh hsym, h]; rfl)
  refine ⟨_, exec_stateInstr_eq (st := .validateId) (by decide) ?_, ?_⟩
  · simp only [← anyIdHigh_iff]
    cases h : anyIdHigh s.regs.symQ with
    | true => simp [ruleRegs, rejectedRegs, h]
    | false => simp [ruleRegs, h, hbits h]
  · simp only [← anyIdHigh_iff]
    cases h : anyIdHigh s.regs.symQ <;> simp [ruleNets, h]

/-- Settles O35: IDLE reads `start` from the command. -/
theorem commandsInIdle : Obligations.CommandsInIdle := by
  intro s hs
  exact ⟨congrArg Host.Outcome.next (stateRule_of_idle (s := s.setCtrl false true) hs),
    congrArg Host.Outcome.next (stateRule_of_idle (s := s.setCtrl false false) hs)⟩

/-- Settles O36: outside IDLE both commands carry their control bits along the rule of the state. -/
theorem startIsLostOutsideIdle : Obligations.StartIsLostOutsideIdle := by
  intro s hs
  exact ⟨_, congrArg Host.Outcome.next (stateRule_setCtrl hs false false),
    congrArg Host.Outcome.next (stateRule_setCtrl hs false true), _, exec_stateInstr s, rfl⟩

/-- Settles O25, with and without `start`. -/
theorem idleWaitsForStart : Obligations.IdleWaitsForStart := by
  intro s
  refine ⟨congrArg Host.Outcome.next ?_, fun h => by simp [Regs.busy, Regs.done, h]⟩
  unfold ruleIdle
  split <;> rfl

/-- Settles O32: either rule writes the `state` register alone. -/
theorem terminalStatesReturnToIdle : Obligations.TerminalStatesReturnToIdle := by
  intro s
  refine ⟨rfl, rfl, ?_⟩
  rintro (h | h) <;> simp [Regs.busy, Regs.done, h]

/-- Settles O34: the reset values are those of `Regs.reset`. -/
theorem resetCommandResetsEveryRegister : Obligations.ResetCommandResetsEveryRegister :=
  fun _ _ => rfl

/-- Settles O37: the edge of the driven cycle is the operation of either word. -/
theorem stepRunsTheDecodedOperation : Obligations.StepRunsTheDecodedOperation := by
  intro s c rest i hh
  rw [step_cycle hh]
  refine ⟨fun hctrl => (exec_decodedCtrl hctrl (s.setHost rest)).symm, fun hrst hstate => ?_⟩
  cases (decode_stateCode _).symm.trans hstate
  rw [← hrst]
  rw [edgeOf_of_rst_false (d := driveCtrl c (s.setHost rest)) hrst, ← stateRule_eq]
  exact (exec_stateInstr (driveCtrl c (s.setHost rest))).symm

end Sys2Proof.Machine
end

-- Proofs: the rejections and what stops the machine (60_exceptions.md)
section
/-! PROOFS of the family 60_exceptions: which cause a decode records, what the entry into REJECT writes, which
host lines stop the machine, and what makes the core leave IDLE. -/

namespace Sys2Proof.Machine

/-! ### The cause of a decode -/

/-- A buffer in which no row is selected always has a cause (60_exceptions.md R202 to R204). -/
theorem selectCause_ne_none (c : Config) (b : Buffer) : selectCause c b ≠ .none := by
  unfold selectCause
  split_ifs <;> decide

/-- No check of a selected row rejects at E1 (60_exceptions.md R200). -/
theorem two_le_causeEdge_rowCause (w : RowWord) : 2 ≤ causeEdge (rowCause w) := by
  unfold rowCause
  split_ifs <;> decide

theorem decodeCause_of_found {c : Config} {b : Buffer} (h : (matcher c b).1 = true) :
    decodeCause c b = rowCause (b.word (matcher c b).2) := if_pos h

theorem decodeCause_of_not_found {c : Config} {b : Buffer} (h : (matcher c b).1 = false) :
    decodeCause c b = selectCause c b := if_neg (Bool.eq_false_iff.1 h)

/-- A decode without a cause is a match (60_exceptions.md R200). -/
theorem decodeCause_eq_none_iff (c : Config) (b : Buffer) :
    decodeCause c b = .none ↔ (decodeBuffer c b).1 = true := by
  cases hf : (matcher c b).1 with
  | true =>
    rw [decodeCause_of_found hf, rowCause_eq_none_iff, pvOk_eq_rowMatches, decodeBuffer, if_pos hf, pv_fst]
  | false =>
    rw [decodeCause_of_not_found hf, decodeBuffer, hf]
    exact iff_of_false (selectCause_ne_none c b) (by simp)

/-! ### The label that the terminal edge leaves -/

/-- After exactly `n` more edges with `rst` = 0, the edge that follows leaves `x` as the label, whatever the
ports carry in them and whatever the signals hold. -/
def LabelsAfter (c : Config) (x : Cause) : Nat → Regs → Prop
  | 0, r => ∀ (p : Ports) (nets : Nets), (ruleNets c p r nets).cause = x
  | n + 1, r => ∀ p : Ports, LabelsAfter c x n (ruleRegs c p r)

/-- A row that passed SELECT is labelled with the first cause in it at that cause's edge
(60_exceptions.md R210). -/
theorem labelsAfter_checkSync (c : Config) {r : Regs} {w : RowWord} {n : Nat} (hs : r.state = .checkSync)
    (hw : r.rowQ = w) (hn : causeEdge (rowCause w) = n + 2) : LabelsAfter c (rowCause w) n r := by
  rcases rowCause_cases w with ⟨hc, hsync⟩ | ⟨hc, hsync, hall⟩ | ⟨hsync, hall, ⟨hc, hflo⟩ |
    ⟨hc, hflo, hfix⟩ | ⟨hflo, hfix, ⟨hc, hhigh⟩ | ⟨hc, hhigh⟩⟩⟩
  all_goals
    rw [hc] at hn
    cases hn
    simp [LabelsAfter, ruleRegs, ruleNets, *]

/-- The edge that ends SELECT records the cause of a buffer in which no row is selected. -/
theorem ruleNets_cause_of_select {c : Config} {p : Ports} {r : Regs} (nets : Nets) (hs : r.state = .select)
    (he : causeEdge (decodeCause c p.buf) = 1) : (ruleNets c p r nets).cause = decodeCause c p.buf := by
  cases hf : (matcher c p.buf).1 with
  | true =>
    have htwo := two_le_causeEdge_rowCause (p.buf.word (matcher c p.buf).2)
    rw [← decodeCause_of_found hf] at htwo
    omega
  | false => simp [ruleNets, hs, hf, decodeCause_of_not_found hf]

/-- The edge that ends SELECT on a selected row begins the checks that find its cause. -/
theorem labelsAfter_select {c : Config} {p : Ports} {r : Regs} {n : Nat} (hs : r.state = .select)
    (hn : causeEdge (decodeCause c p.buf) = n + 2) :
    LabelsAfter c (decodeCause c p.buf) n (ruleRegs c p r) := by
  cases hf : (matcher c p.buf).1 with
  | true =>
    rw [decodeCause_of_found hf] at hn ⊢
    have hr : ruleRegs c p r = { r with
        state := .checkSync, rowQ := p.buf.word (matcher c p.buf).2 } := by
      simp [ruleRegs, hs, hf]
    rw [hr]
    exact labelsAfter_checkSync c rfl rfl hn
  | false =>
    rw [decodeCause_of_not_found hf, causeEdge_selectCause] at hn
    omega

/-- A run of one more step at its end. -/
theorem run_succ_of_run {n : Nat} {s v t : State} (hrun : core.run n s = .next v)
    (hstep : step v = .next t) : core.run (n + 1) s = .next t := by
  induction n generalizing s with
  | zero =>
    cases hrun
    exact run_succ_of_next 0 hstep
  | succ n ih =>
    obtain ⟨u, hsu, hrun⟩ := run_succ_inv hrun
    exact (run_succ_of_next (n + 1) hsu).trans (ih hrun)

/-- A run with `rst` = 0 comes nearer to the labelling edge by one edge per cycle; the steps between the
cycles leave the registers alone. -/
theorem cause_of_labelsAfter_run {x : Cause} {n : Nat} {v t : State} (hvt : step v = .next t)
    (hedge : t.cycle = v.cycle + 1) :
    ∀ {s : State} {j : Nat}, LabelsAfter s.cfg x j s.regs → core.run n s = .next v →
      rstLow (n + 1) s = true → v.cycle = s.cycle + j → t.nets.cause = x := by
  induction n with
  | zero =>
    intro s j hlab hrun hlow hj
    cases hrun
    obtain rfl : j = 0 := by omega
    obtain ⟨hrst, -⟩ := (rstLow_succ hvt).1 hlow
    rw [(step_edge hvt hedge hrst).2]
    exact hlab t.ports v.nets
  | succ n ih =>
    intro s j hlab hrun hlow hj
    obtain ⟨u, hsu, hrun⟩ := run_succ_inv hrun
    obtain ⟨hrst, hlow⟩ := (rstLow_succ hsu).1 hlow
    have hcfg := step_cfg hsu
    rw [← hcfg] at hlab
    rcases step_cycle_cases hsu with hcycle | ⟨hcycle, hregs⟩
    · have hle := run_cycle_le hrun
      obtain ⟨k, rfl⟩ : ∃ k, j = k + 1 := Nat.exists_eq_add_of_le' (by omega)
      refine ih (j := k) ?_ hrun hlow (by omega)
      rw [(step_edge hsu hcycle hrst).1, ← hcfg]
      exact hlab u.ports
    · exact ih (hregs ▸ hlab) hrun hlow (by omega)

/-- The terminal edge of a decode leaves the first cause in the buffer of the SELECT cycle as the label
(60_exceptions.md R210). -/
theorem cause_of_select_run {s r v t : State} {n : Nat} (hs : s.regs.state = .select)
    (hsr : step s = .next r) (hr : r.cycle = s.cycle + 1) (hrun : core.run n s = .next v)
    (hvt : step v = .next t) (hlow : rstLow (n + 1) s = true)
    (hv : v.cycle + 1 = s.cycle + causeEdge (decodeCause s.cfg r.ports.buf))
    (hedge : t.cycle = v.cycle + 1) : t.nets.cause = decodeCause s.cfg r.ports.buf := by
  obtain ⟨hrst, hlowr⟩ := (rstLow_succ hsr).1 hlow
  obtain ⟨hregs, hnets⟩ := step_edge hsr hr hrst
  cases n with
  | zero =>
    cases hrun
    cases hsr.symm.trans hvt
    rw [hnets]
    exact ruleNets_cause_of_select _ hs (by omega)
  | succ n =>
    have hrun := (run_succ_of_next n hsr).symm.trans hrun
    have hle := run_cycle_le hrun
    obtain ⟨k, hk⟩ : ∃ k, causeEdge (decodeCause s.cfg r.ports.buf) = k + 2 :=
      Nat.exists_eq_add_of_le' (by omega)
    refine cause_of_labelsAfter_run hvt hedge ?_ hrun hlowr (j := k) (by omega)
    rw [step_cfg hsr, hregs]
    exact labelsAfter_select hs hk

/-! ### Host lines that no port can carry -/

/-- A presented word is evaluated exactly when it fits its site's format (30_encoding.md R70). -/
theorem presented_iff_wellFormed (c : Config) (b : BlockSite) (w : Nat) :
    (∃ i, presented b w = some i) ↔ (HostLine.present b w).wellFormed c = true := by
  refine ⟨fun ⟨i, hi⟩ => ?_, presented_of_wellFormed⟩
  by_contra hw
  have hwide : 2 ^ b.site.width ≤ w := by simpa [HostLine.wellFormed] using hw
  have hnone : presented b w = none := by
    cases b with
    | row => exact if_neg (Nat.not_lt.2 hwide)
    | pair | idPair | fixPair | sync => exact congrArg Except.toOption (decode_of_width_le hwide)
  rw [hnone] at hi
  cases hi

theorem step_buf_completes_iff {s : State} {b : BufLine} {rest : List HostLine}
    (hh : s.host = .buf b :: rest) :
    (∃ t, step s = .next t) ↔ (HostLine.buf b).wellFormed s.cfg = true := by
  rw [step_buf hh, HostLine.wellFormed, ← bufFault_eq_none_iff]
  cases bufFault s.cfg b <;> simp

theorem step_present_completes_iff {s : State} {b : BlockSite} {w : Nat} {rest : List HostLine}
    (hh : s.host = .present b w :: rest) :
    (∃ t, step s = .next t) ↔ (HostLine.present b w).wellFormed s.cfg = true := by
  rw [step_present hh, ← presented_iff_wellFormed]
  cases presented b w with
  | none => simp
  | some i =>
    obtain ⟨u, hu⟩ := exec_completes i (s.setHost rest)
    simp [hu, settled]

/-- Whether a step completes is a matter of the host's next line alone. -/
theorem step_completes_iff {s : State} {l : HostLine} {rest : List HostLine} (hh : s.host = l :: rest) :
    (∃ t, step s = .next t) ↔ l.wellFormed s.cfg = true := by
  cases l with
  | cycle c => exact iff_of_true ⟨_, step_cycle hh⟩ rfl
  | waitDone => exact iff_of_true ⟨_, step_waitDone hh⟩ rfl
  | decode => exact iff_of_true ⟨_, step_decode hh⟩ rfl
  | reset => exact iff_of_true ⟨_, step_reset hh⟩ rfl
  | matchRows => exact iff_of_true ⟨_, step_matchRows hh⟩ rfl
  | buf b => exact step_buf_completes_iff hh
  | present b w => exact step_present_completes_iff hh

/-! ### The entry into REJECT -/

/-- No cause is detected in REJECT, so that rejections do not nest (60_exceptions.md R212). -/
theorem causeState_ne_reject (x : Cause) : causeState x ≠ some .reject := by
  cases x <;> decide

/-! ### The statements -/

/-- Settles O55: the checks after SELECT meet the causes in their order, and a match is a decode without a
cause. -/
theorem theFirstCauseFoundIsRecorded : Obligations.TheFirstCauseFoundIsRecorded := by
  intro s r hs hsr hr n v t hrun hvt hlow hv hedge
  have hcause := cause_of_select_run hs hsr hr hrun hvt hlow hv hedge
  refine ⟨hcause, ?_⟩
  obtain ⟨-, hend⟩ :=
    decode_of_select_run hs hsr hr rfl (run_succ_of_run hrun hvt) hlow (hedge.trans hv) le_rfl
  obtain ⟨hstate, -⟩ := hend rfl
  rw [hcause, hstate, decodeCause_eq_none_iff]
  cases (decodeBuffer s.cfg r.ports.buf).1 <;> decide

/-- Settles O17: both say that the row passes every check of the packet_validator. -/
theorem noCauseExactlyOnAcceptance : Obligations.NoCauseExactlyOnAcceptance := by
  intro o w
  rw [rowCause_eq_none_iff, pvOk_eq_rowMatches, pv_fst]

/-- Settles O33: of the transitions of the state machine, only a rejection enters REJECT. -/
theorem rejectionEntryKeepsTheDecodedRow : Obligations.RejectionEntryKeepsTheDecodedRow := by
  intro s t h ht
  rw [exec_stateInstr] at h
  cases h
  rcases stateRule_cases s with ⟨hs, -, hr⟩ | ⟨-, -, hr⟩ | ⟨-, -, hr⟩ | ⟨-, -, hr⟩ | ⟨-, -, hr⟩ |
    ⟨-, -, -, hr⟩ | ⟨-, -, -, hr⟩ | ⟨hcause, hr⟩ | ⟨-, hr⟩
  · rw [hr, hs] at ht; cases ht
  iterate 6 · rw [hr] at ht; cases ht
  · exact ⟨fun hs => causeState_ne_reject _ (hs ▸ hcause), hr⟩
  · rw [hr] at ht; cases ht

/-- Settles O41: every operation has a next state, so only the host's next line decides. -/
theorem onlyIllFormedLinesStop : Obligations.OnlyIllFormedLinesStop := by
  refine ⟨exec_completes, fun s => ?_⟩
  cases hh : s.host with
  | nil => exact iff_of_true ⟨_, step_nil hh⟩ (by simp)
  | cons l rest => simpa using step_completes_iff hh

/-- Settles O50: a step is a clock edge, of a reset or of the rule of IDLE, or changes no register. -/
theorem idleLeavesOnlyOnStart : Obligations.IdleLeavesOnlyOnStart := by
  intro s t hs h
  rcases step_cases h with ⟨d, -, hregs, -, -, -, rfl⟩ | ⟨-, hregs, -⟩
  · rw [edgeOf_ports, ← hregs]
    cases hrst : d.ports.rst with
    | true => exact .inr (.inl ⟨rfl, by simp [edgeOf, hrst, State.resetRegs]⟩)
    | false =>
      rw [edgeOf_of_rst_false hrst]
      cases hstart : d.ports.start with
      | true => exact .inr (.inr ⟨rfl, rfl, by simp [ruleRegs, hregs, hs, hstart]⟩)
      | false => exact .inl (by simp [ruleRegs, hregs, hs, hstart])
  · exact .inl hregs

end Sys2Proof.Machine
end

-- Proofs: reset and the hazards (70_reset_and_hazards.md)
section
/-! PROOFS of the family 70_reset_and_hazards: what a clock edge with `rst` = 1 makes of any registers, and
that a clock edge with `rst` = 0 keeps the result until `done`. -/

namespace Sys2Proof.Machine

/-! ### A clock edge with `rst` = 1 -/

/-- A reset edge gives every register its reset value, whatever it held (70_reset_and_hazards.md R231). -/
theorem edgeOf_regs_of_rst {d : State} (h : d.ports.rst = true) : (edgeOf d).regs = Regs.reset := by
  rw [edgeOf, if_pos h, State.resetRegs_regs]

/-- The edge of a cycle line is a reset edge when bit 1 of its CTRL word, `rst`, is 1 (30_encoding.md R74). -/
theorem step_cycle_of_rst {s : State} {c : BitVec 2} {rest : List HostLine} (hh : s.host = .cycle c :: rest)
    (hrst : c.getLsbD 1 = true) : ∃ t, step s = .next t ∧ t.regs = Regs.reset ∧ t.host = rest := by
  obtain ⟨-, -, hhost, -⟩ := edgeOf_frame (driveCtrl c (s.setHost rest))
  exact ⟨_, step_cycle hh, edgeOf_regs_of_rst hrst, hhost⟩

/-! ### A clock edge with `rst` = 0 -/

/-- An edge that changes the result enters a state with `done` = 1 (10_state.md R26, R27). -/
theorem done_edgeOf_of_result_ne {d : State} (hrst : d.ports.rst = false)
    (hne : ((edgeOf d).regs.resStatus, (edgeOf d).regs.resId) ≠ (d.regs.resStatus, d.regs.resId)) :
    (edgeOf d).regs.done = true := by
  have hexec : exec (stateInstr d.regs.state) d = .next (edgeOf d) := by
    rw [exec_stateInstr, edgeOf_of_rst_false hrst, stateRule_eq]
  obtain ⟨-, -, hresult⟩ := stateOperationsWriteOnlyTheirRegisters d (edgeOf d) hexec
  exact hresult hne

/-! ### The statements -/

/-- Settles O42: the outputs are read off the reset values. -/
theorem resetStateIsIdle : Obligations.ResetStateIsIdle :=
  fun _ => ⟨rfl, rfl, rfl, rfl, rfl⟩

/-- Settles O43: the registers after a reset edge do not depend on those before it. -/
theorem oneResetCycleIsEnough : Obligations.OneResetCycleIsEnough := by
  refine ⟨fun s b rest hh hrst => step_cycle_of_rst hh hrst, fun c rest => ?_⟩
  have hh : (State.powerUp c (HostLine.rst :: rest)).host = .cycle 0b10#2 :: rest := rfl
  obtain ⟨t, ht, hregs, -⟩ := step_cycle_of_rst hh (by decide)
  exact ⟨t, ht, hregs⟩

/-- Settles O49: a step is a reset edge, an edge of a state's rule, or changes no register. -/
theorem resultIsHeldUntilTheNextEnd : Obligations.ResultIsHeldUntilTheNextEnd := by
  intro s t h hne
  rcases step_cases h with ⟨d, -, hregs, -, -, -, rfl⟩ | ⟨-, hregs, -⟩
  · rw [edgeOf_ports]
    cases hrst : d.ports.rst with
    | true => exact .inr ⟨rfl, edgeOf_regs_of_rst hrst⟩
    | false => exact .inl (done_edgeOf_of_result_ne hrst (hregs ▸ hne))
  · exact absurd (by rw [hregs]) hne

/-- Settles O58: whatever the decode has reached, a reset edge gives the outputs of the reset state. -/
theorem resetAbandonsADecode : Obligations.ResetAbandonsADecode := by
  intro s b rest _ hh hrst
  obtain ⟨t, ht, hregs, -⟩ := step_cycle_of_rst hh hrst
  obtain ⟨-, houtputs⟩ := resetStateIsIdle s.cfg
  exact ⟨t, ht, hregs ▸ houtputs⟩

end Sys2Proof.Machine
end

-- Proofs: the encoder is the decoder's inverse (30_encoding.md)
section
/-! PROOFS of the round trip between operations and words: encoding then decoding at each operation, and
decoding then encoding at each site. -/

namespace Sys2Proof.Machine

/-! ### The words that decode -/

/-- A word with an operation fits its site's format (30_encoding.md R70). -/
theorem lt_width_of_decode {site : Site} {w : Nat} {i : Instr} (h : decode site w = .ok i) :
    w < 2 ^ site.width := by
  by_contra hw
  rw [decode_of_width_le (Nat.le_of_not_lt hw)] at h
  cases h

/-- A row word with an operation matches the accepted-row pattern (30_encoding.md R80, R81). -/
theorem match_of_decodeRow {w : Nat} {i : Instr} (h : decodeRow w = .ok i) :
    BitVec.ofNat 25 w &&& rowMask = rowMatch := by
  obtain ⟨hw, -⟩ := decodeRow_eq_ok h
  by_contra hm
  rw [decodeRow_of_mismatch hw hm] at h
  cases h

theorem wellFormed_rowAccept {w : RowWord} :
    (Instr.rowAccept w).wellFormed = true ↔ w &&& rowMask = rowMatch := beq_iff_eq

/-! ### The two directions -/

/-- ROW_ACCEPT's own word, when it matches the pattern, decodes to it with all 25 bits kept. -/
theorem decodeRow_toNat {w : RowWord} (h : w &&& rowMask = rowMatch) :
    decodeRow w.toNat = .ok (.rowAccept w) := by
  have hw : BitVec.ofNat 25 w.toNat = w := by simp
  rw [decodeRow_of_match w.isLt (by rw [hw, h]), hw]

/-- Only ROW_ACCEPT asks for well-formedness: its word must match the pattern of 30_encoding.md R80. -/
theorem decode_encode {i : Instr} (h : i.wellFormed = true) : decode (encode i).1 (encode i).2 = .ok i := by
  cases i with
  | rowAccept w => exact decodeRow_toNat (wellFormed_rowAccept.1 h)
  | cmdReset start => cases start <;> rfl
  | _ => rfl

/-- A decoded ROW word comes back from ROW_ACCEPT's operand, since it fits the 25 bits. -/
theorem encode_of_decodeRow {w : Nat} {i : Instr} (h : decodeRow w = .ok i) :
    i.wellFormed = true ∧ encode i = (.row, w) := by
  have hm := match_of_decodeRow h
  obtain ⟨hw, rfl⟩ := decodeRow_eq_ok h
  exact ⟨wellFormed_rowAccept.2 hm, by rw [encode, BitVec.toNat_ofNat, Nat.mod_eq_of_lt hw]⟩

/-- At a site other than ROW each of the format's patterns is read back from its own operation. -/
theorem encode_of_decode {site : Site} {w : Nat} {i : Instr} (h : decode site w = .ok i) :
    i.wellFormed = true ∧ encode i = (site, w) := by
  have hw := lt_width_of_decode h
  cases site with
  | row => exact encode_of_decodeRow h
  | pair | idPair | fixPair | ctrl =>
    change w < 4 at hw
    interval_cases w <;> cases h <;> exact ⟨rfl, rfl⟩
  | sync =>
    change w < 2 at hw
    interval_cases w <;> cases h <;> exact ⟨rfl, rfl⟩
  | state =>
    change w < 8 at hw
    interval_cases w <;> cases h <;> exact ⟨rfl, rfl⟩

/-! ### The statement -/

/-- Settles O1: the encoder and the decoder are inverse to each other, operation by operation and site by
site. -/
theorem decodeAndEncodeAgree : Obligations.DecodeAndEncodeAgree :=
  ⟨fun _ h => decode_encode h, fun _ _ _ h => encode_of_decode h⟩

end Sys2Proof.Machine
end
